-- ==== Sys2Proof/Word.lean ====
section
/-! DEFINITION. The words of the block (00_scope R8): one bit, a byte, a 16-bit field, a 32-bit word. -/

namespace Sys2Proof

/-- A one-bit register (TX_SEQ, RX_EXP, RX_SEQ). -/
abbrev Bit := BitVec 1

/-- A frame field or a payload byte. -/
abbrev Byte := BitVec 8

/-- A bus address, or a length field. -/
abbrev Half := BitVec 16

/-- A host bus word, a counter, a checksum. -/
abbrev Word := BitVec 32

end Sys2Proof
end

