-- ==== Sys2Proof/Machine/Bytes.lean ====
section
/-! DEFINITION. Byte order (20_memory R62: little-endian wherever a multi-byte value meets a byte sequence). -/

namespace Sys2Proof

/-- Byte lane `j` of a word: bits `[8j+7 : 8j]` (R61). -/
def laneOf (w : Word) (j : Nat) : Byte := w.extractLsb' (8 * j) 8

/-- Byte `j` of a 16-bit field, low byte first (R111). -/
def halfLane (h : Half) (j : Nat) : Byte := h.extractLsb' (8 * j) 8

/-- The word whose lanes are `b0` (lowest) to `b3` (R61: `{b3, b2, b1, b0}`). -/
def wordOfLanes (b0 b1 b2 b3 : Byte) : Word := b3 ++ b2 ++ b1 ++ b0

/-- The 16-bit field of a low and a high byte. -/
def halfOfLanes (b0 b1 : Byte) : Half := b1 ++ b0

end Sys2Proof
end

