-- ==== Sys2Proof/Config.lean ====
section
/-! DEFINITION. What an implementation of the block fixes: its three parameters (00_scope R6, R7), the
channel's NetworkConfig (44_network_path R210), and the free values behind the bytes that reset leaves
unspecified (70_reset R260). -/

namespace Sys2Proof

/-- The parameters of R6. Their legal ranges (R7) are `Params.legal` in WellFormed. -/
structure Params where
  maxDataSize : Nat
  maxRetries : Nat
  timeoutTicks : Nat
  deriving DecidableEq, Repr

/-- What the loss probability p of the channel allows for the fate of a frame (R217): p = 0 delivers every
frame, p = 1 drops every frame, any other p allows either. -/
inductive LossLaw where
  | never
  | always
  | either
  deriving DecidableEq, Repr

/-- The channel's NetworkConfig, delays in ticks (R210). -/
structure NetConfig where
  loss : LossLaw
  minDelay : Nat
  maxDelay : Nat
  deriving DecidableEq, Repr

/-- The parameter values of `State.reset`: the illustrative values of 95_test_vectors. DESIGN CHOICE (log 1):
the spec leaves all three OPEN. Only `Obligations.ResetMeetsInvariant` names them, as a case of every legal value. -/
def Config.params : Params := ⟨64, 3, 2⟩

/-- The channel configuration of `State.reset`. DESIGN CHOICE (log 10). -/
def Config.net : NetConfig := ⟨.either, 0, 5⟩

/-- FREE VALUE (log 4): the byte of TX_BUF or RX_BUF at a bus address that nothing has written since the
reset number `epoch` (R260: "a model draws any value for each byte and assumes nothing of it"). -/
opaque Config.resetByte (epoch : Nat) (address : Nat) : Byte

/-- FREE VALUE (log 4): a payload byte of TXF after the reset number `epoch` (R25, R260). -/
opaque Config.resetTxfByte (epoch : Nat) (index : Nat) : Byte

end Sys2Proof
end

