-- ==== Sys2Proof/Syntax.lean ====
section
/-! DEFINITION. Frame records (30_encoding R80, R81), the input sample of a cycle (R87, R94), the channel's
draws (44_network_path R211), and the operations of the block: one constructor of `Instr` for each row of the
opcode table (R92). -/

namespace Sys2Proof

/-- A data frame record (R80). `payload` stands for the MAX_DATA_SIZE byte positions of the port (R98); a
position beyond the list reads as 0 (log 13). -/
structure DataFrame where
  type : Byte
  seq : Byte
  len : Half
  payload : List Byte
  csum : Word
  deriving DecidableEq, Repr

/-- An ack frame record (R81). -/
structure AckFrame where
  type : Byte
  ack : Byte
  csum : Word
  deriving DecidableEq, Repr

/-- The all-zero data record. -/
def DataFrame.zero : DataFrame := ⟨0, 0, 0, [], 0⟩

/-- The all-zero ack record. -/
def AckFrame.zero : AckFrame := ⟨0, 0, 0⟩

/-- The input sample of one cycle: every input port of R87. -/
structure Sample where
  rstN : Bool
  busValid : Bool
  busWe : Bool
  busAddr : Half
  busWdata : Word
  rxdValid : Bool
  rxdFrame : DataFrame
  rxaValid : Bool
  rxaFrame : AckFrame
  tick : Bool
  dataLost : Bool
  ackLost : Bool
  deriving DecidableEq, Repr

/-- A cycle with no bus request and no events (R99), out of reset. -/
def Sample.idle : Sample :=
  ⟨true, false, false, 0, 0, false, .zero, false, .zero, false, false, false⟩

/-- The two fates of a frame in the channel (R211). -/
inductive Fate where
  | deliver
  | drop
  deriving DecidableEq, Repr

/-- The channel's free choice for one emission (R211, R214, R216): its fate where the loss law leaves it open
(R217), and how many cycles the frame waits at least before it meets it. -/
structure Draw where
  fate : Fate
  wait : Nat
  deriving DecidableEq, Repr

/-- The draw of a frame delivered in the next cycle, as far as the channel's configuration allows. -/
def Draw.next : Draw := ⟨.deliver, 0⟩

/-- What the environment does in one cycle: the input sample, and the channel's draw for a frame emitted in
each direction in this cycle. The channel's own frames are laid over the sample (`Machine/Channel.lean`). -/
structure Stimulus where
  sample : Sample
  dataDraw : Draw
  ackDraw : Draw
  deriving DecidableEq, Repr

/-- A cycle that R99 does not list: no request, no event. -/
def Stimulus.idle : Stimulus := ⟨.idle, .next, .next⟩

/-- The statistics registers (10_state R37). -/
inductive StatReg where
  | framesSent
  | framesReceived
  | acksSent
  | acksReceived
  | retransmissions
  | framesLost
  | startTime
  | endTime
  deriving DecidableEq, Repr

/-- What a mapped, aligned bus address names (10_state R40): a register, or the first byte index of a word of
a payload window (20_memory R61). -/
inductive BusTarget where
  | cmd
  | cfg
  | status
  | cond
  | msgLen
  | rxStatus
  | param0
  | param1
  | stat (r : StatReg)
  | time
  | txCsum
  | txBuf (index : Nat)
  | rxBuf (index : Nat)
  deriving DecidableEq, Repr

/-- The operations of R92, one constructor for each row of `spec/opcode_table.json`. `ignored` is bits 31:4
of a CMD write (R84), kept so that no bit of the word is lost. -/
inductive Instr where
  | regRead (addr : Half)
  | regWrite (addr : Half) (wdata : Word)
  | nop (ignored : BitVec 28)
  | start (ignored : BitVec 28)
  | clrStats (ignored : BitVec 28)
  | cmdReserved3 (ignored : BitVec 28)
  | cmdReserved47 (low : BitVec 2) (ignored : BitVec 28)
  | cmdReserved8F (low : BitVec 3) (ignored : BitVec 28)
  | send
  | rxData (f : DataFrame)
  | rxAccept (f : DataFrame)
  | rxDuplicate (f : DataFrame)
  | rxDrop (f : DataFrame)
  | rxAck (a : AckFrame)
  | ackAccept (a : AckFrame)
  | ackDiscard (a : AckFrame)
  | timeoutRetransmit
  | timeoutFail
  | tick
  | lossData
  | lossAck
  deriving DecidableEq, Repr

end Sys2Proof
end

