-- ==== Sys2Proof/WellFormed.lean ====
section
/-! DEFINITION. Well-formedness: the legal parameter ranges (00_scope R7), records that fit the ports
(00_scope R10, 30_encoding R98), and which operations own their pattern of the table (30_encoding R92). -/

namespace Sys2Proof

/-- The parameter ranges of R7. -/
def Params.legal (p : Params) : Bool :=
  decide (2 ≤ p.maxDataSize) && decide (p.maxDataSize ≤ 4096) && decide (p.maxRetries ≤ 255)
    && decide (p.timeoutTicks ≤ 4294967294)

/-- A data record of the port: exactly MAX_DATA_SIZE payload byte positions (R10, R98). Its field values are
unconstrained: the environment may present malformed frames (R83). -/
def DataFrame.fits (p : Params) (f : DataFrame) : Bool :=
  f.payload.length == p.maxDataSize

/-- A sample whose data record is one the port can carry. -/
def Sample.fits (p : Params) (I : Sample) : Bool :=
  I.rxdFrame.fits p

/-- Well-formed operations: a data record fits the port. Addresses, data and the other fields take every value
of their width: a misaligned or unmapped address is a bus error, not an ill-formed request (R63). -/
def Instr.wf (p : Params) : Instr → Bool
  | .regRead _ => true
  | .regWrite _ _ => true
  | .nop _ => true
  | .start _ => true
  | .clrStats _ => true
  | .cmdReserved3 _ => true
  | .cmdReserved47 _ _ => true
  | .cmdReserved8F _ _ => true
  | .send => true
  | .rxData f => f.fits p
  | .rxAccept f => f.fits p
  | .rxDuplicate f => f.fits p
  | .rxDrop f => f.fits p
  | .rxAck _ => true
  | .ackAccept _ => true
  | .ackDiscard _ => true
  | .timeoutRetransmit => true
  | .timeoutFail => true
  | .tick => true
  | .lossData => true
  | .lossAck => true

/-- Whether an operation is the one its pattern of the opcode table decodes to. SEND, RX_ACCEPT, RX_DUPLICATE,
RX_DROP, ACK_ACCEPT, ACK_DISCARD and TIMEOUT_FAIL repeat the pattern of another row (R92): the machine selects
them by their guard, inside the operation that has the pattern. -/
def Instr.ownsPattern : Instr → Bool
  | .send => false
  | .rxAccept _ => false
  | .rxDuplicate _ => false
  | .rxDrop _ => false
  | .ackAccept _ => false
  | .ackDiscard _ => false
  | .timeoutFail => false
  | .regRead _ => true
  | .regWrite _ _ => true
  | .nop _ => true
  | .start _ => true
  | .clrStats _ => true
  | .cmdReserved3 _ => true
  | .cmdReserved47 _ _ => true
  | .cmdReserved8F _ _ => true
  | .rxData _ => true
  | .rxAck _ => true
  | .timeoutRetransmit => true
  | .tick => true
  | .lossData => true
  | .lossAck => true

end Sys2Proof
end

