-- ==== Sys2Proof/Decode.lean ====
section
/-! DEFINITION. The decoder of 30_encoding R91, R92: from the cycle control word and the port fields to the
operations a cycle triggers, from bytes to one operation, and the encoder. The table has two formats: CCW, a
cycle control word with its operands on the ports, and CMD, a 32-bit word written to CMD. The byte image of a
CCW with its operands is the model's own layout (log 7): the spec's ports are parallel records.

| bytes | content |
|---|---|
| 0 | CCW (R91) |
| 1, 2 | bus_addr, low byte first |
| 3 to 6 | bus_wdata, low byte first |
| 7, 8, 9 to 12 | ack record: type, ack, csum |
| 13, 14, 15 and 16, 17 to 20 | data record: type, seq, len, csum |
| from 21 | data record: payload |
-/

namespace Sys2Proof

/-- The formats of the opcode table. Its `internal` row, SEND, repeats START's CMD pattern (R92). -/
inductive Format where
  | ccw
  | cmd
  deriving DecidableEq, Repr

/-- Why bytes are not one operation. -/
inductive DecodeError where
  /-- a command word of other than four bytes -/
  | commandLength
  /-- no byte at all -/
  | emptyImage
  /-- the CCW selects no operation (an idle cycle) -/
  | noOperation
  /-- the CCW selects several operations (R91 allows it: the cycle runs them in sub-step order) -/
  | severalOperations
  deriving DecidableEq, Repr

/-- A row of the operation map: an operation runs when its CCW bits match (R92). -/
def rowMatches (mask pattern ccw : Byte) : Bool := ccw &&& mask == pattern

/-- The CCW of an input sample (R91). Bit 7 is no input: the machine computes it at sub-step 4. -/
def Sample.ccw (I : Sample) : Byte :=
  0#1 ++ BitVec.ofBool I.ackLost ++ BitVec.ofBool I.dataLost ++ BitVec.ofBool I.tick
    ++ BitVec.ofBool I.rxaValid ++ BitVec.ofBool I.rxdValid ++ BitVec.ofBool I.busWe
    ++ BitVec.ofBool I.busValid

/-- The command rows: OP is bits 3:0 of the word written to CMD, bits 31:4 are ignored (R84, R85). -/
def decodeCommand (w : Word) : Instr :=
  let rest := w.extractLsb' 4 28
  if w &&& 0xF#32 == 0x0#32 then .nop rest
  else if w &&& 0xF#32 == 0x1#32 then .start rest
  else if w &&& 0xF#32 == 0x2#32 then .clrStats rest
  else if w &&& 0xF#32 == 0x3#32 then .cmdReserved3 rest
  else if w &&& 0xC#32 == 0x4#32 then .cmdReserved47 (w.extractLsb' 0 2) rest
  else .cmdReserved8F (w.extractLsb' 0 3) rest

/-- The operations of sub-step 1: REG_READ 0x03/0x01, REG_WRITE 0x03/0x03. A write to 0x000 is REG_WRITE too,
which runs the command of the word (R184, R191). -/
def busInstrs (ccw : Byte) (I : Sample) : List Instr :=
  if rowMatches 0x03 0x01 ccw then [.regRead I.busAddr]
  else if rowMatches 0x03 0x03 ccw then [.regWrite I.busAddr I.busWdata]
  else []

/-- The operation of sub-step 2: RX_DATA 0x04/0x04. -/
def dataInstrs (ccw : Byte) (I : Sample) : List Instr :=
  if rowMatches 0x04 0x04 ccw then [.rxData I.rxdFrame] else []

/-- The operation of sub-step 3: RX_ACK 0x08/0x08. -/
def ackInstrs (ccw : Byte) (I : Sample) : List Instr :=
  if rowMatches 0x08 0x08 ccw then [.rxAck I.rxaFrame] else []

/-- The pattern 0x80/0x80 of sub-step 4, as a word of the table (log 8). In a cycle bit 7 is computed, and the
machine selects TIMEOUT_RETRANSMIT or TIMEOUT_FAIL by RETRY (R137). -/
def timeoutPattern (ccw : Byte) : List Instr :=
  if rowMatches 0x80 0x80 ccw then [.timeoutRetransmit] else []

/-- The operations of sub-steps 5 and 6: TICK 0x10/0x10, LOSS_DATA 0x20/0x20, LOSS_ACK 0x40/0x40. -/
def lateInstrs (ccw : Byte) : List Instr :=
  (if rowMatches 0x10 0x10 ccw then [.tick] else [])
    ++ (if rowMatches 0x20 0x20 ccw then [.lossData] else [])
    ++ (if rowMatches 0x40 0x40 ccw then [.lossAck] else [])

/-- Sub-steps 1 to 3 of a cycle, in order (R95). -/
def Sample.earlyInstrs (I : Sample) : List Instr :=
  busInstrs I.ccw I ++ dataInstrs I.ccw I ++ ackInstrs I.ccw I

/-- Sub-steps 5 and 6 of a cycle, in order (R95). -/
def Sample.lateInstrs (I : Sample) : List Instr := Sys2Proof.lateInstrs I.ccw

/-- Every operation a CCW selects, in the sub-step order of R95. -/
def selectedInstrs (ccw : Byte) (I : Sample) : List Instr :=
  busInstrs ccw I ++ dataInstrs ccw I ++ ackInstrs ccw I ++ timeoutPattern ccw ++ lateInstrs ccw

/-- Byte `k` of an image; a byte the image does not give is 0. -/
def imageByte (bs : List Byte) (k : Nat) : Byte := bs.getD k 0

/-- The 32-bit field at byte `k` of an image. -/
def imageWord (bs : List Byte) (k : Nat) : Word :=
  wordOfLanes (imageByte bs k) (imageByte bs (k + 1)) (imageByte bs (k + 2)) (imageByte bs (k + 3))

/-- The 16-bit field at byte `k` of an image. -/
def imageHalf (bs : List Byte) (k : Nat) : Half :=
  halfOfLanes (imageByte bs k) (imageByte bs (k + 1))

/-- The sample a byte image lays out; total on any bytes. -/
def sampleOfImage (bs : List Byte) : Sample where
  rstN := true
  busValid := (imageByte bs 0).getLsbD 0
  busWe := (imageByte bs 0).getLsbD 1
  busAddr := imageHalf bs 1
  busWdata := imageWord bs 3
  rxdValid := (imageByte bs 0).getLsbD 2
  rxdFrame := ⟨imageByte bs 13, imageByte bs 14, imageHalf bs 15, bs.drop 21, imageWord bs 17⟩
  rxaValid := (imageByte bs 0).getLsbD 3
  rxaFrame := ⟨imageByte bs 7, imageByte bs 8, imageWord bs 9⟩
  tick := (imageByte bs 0).getLsbD 4
  dataLost := (imageByte bs 0).getLsbD 5
  ackLost := (imageByte bs 0).getLsbD 6

/-- One operation from the byte image of a CCW with its operands, or the reason there is not exactly one. -/
def decodeImage (bs : List Byte) : Except DecodeError Instr :=
  match bs with
  | [] => .error .emptyImage
  | ccw :: _ =>
    match selectedInstrs ccw (sampleOfImage bs) with
    | [] => .error .noOperation
    | [i] => .ok i
    | _ :: _ :: _ => .error .severalOperations

/-- The command of the four bytes of a CMD word, low byte first. -/
def decodeCommandBytes (bs : List Byte) : Except DecodeError Instr :=
  match bs with
  | [b0, b1, b2, b3] => .ok (decodeCommand (wordOfLanes b0 b1 b2 b3))
  | _ => .error .commandLength

/-- One operation from any bytes of a format of the table. -/
def decode (fmt : Format) (bs : List Byte) : Except DecodeError Instr :=
  match fmt with
  | .ccw => decodeImage bs
  | .cmd => decodeCommandBytes bs

/-- The four bytes of a word, low byte first. -/
def wordImage (w : Word) : List Byte := [laneOf w 0, laneOf w 1, laneOf w 2, laneOf w 3]

/-- The two bytes of a 16-bit field, low byte first. -/
def halfImage (h : Half) : List Byte := [halfLane h 0, halfLane h 1]

/-- The byte image of a CCW with the operand fields of a sample. -/
def imageWith (ccw : Byte) (I : Sample) : List Byte :=
  [ccw] ++ halfImage I.busAddr ++ wordImage I.busWdata
    ++ [I.rxaFrame.type, I.rxaFrame.ack] ++ wordImage I.rxaFrame.csum
    ++ [I.rxdFrame.type, I.rxdFrame.seq] ++ halfImage I.rxdFrame.len ++ wordImage I.rxdFrame.csum
    ++ I.rxdFrame.payload

/-- The byte image of an input sample. -/
def Sample.image (I : Sample) : List Byte := imageWith I.ccw I

/-- The command word of a CMD row: OP in bits 3:0 (R85), the ignored bits above; 0 for a row of the CCW
format. -/
def Instr.commandWord : Instr → Word
  | .nop rest => rest ++ 0x0#4
  | .start rest => rest ++ 0x1#4
  | .clrStats rest => rest ++ 0x2#4
  | .cmdReserved3 rest => rest ++ 0x3#4
  | .cmdReserved47 low rest => rest ++ (0b01#2 ++ low)
  | .cmdReserved8F low rest => rest ++ (0b1#1 ++ low)
  | .send => 0x00000001
  | .regRead _ => 0
  | .regWrite _ _ => 0
  | .rxData _ => 0
  | .rxAccept _ => 0
  | .rxDuplicate _ => 0
  | .rxDrop _ => 0
  | .rxAck _ => 0
  | .ackAccept _ => 0
  | .ackDiscard _ => 0
  | .timeoutRetransmit => 0
  | .timeoutFail => 0
  | .tick => 0
  | .lossData => 0
  | .lossAck => 0

/-- The sample of a write of the word `w` to CMD, at address 0x000 (R84, R86). -/
def commandSample (w : Word) : Sample :=
  { Sample.idle with busValid := true, busWe := true, busAddr := 0, busWdata := w }

/-- The sample that triggers an operation and nothing else: the CCW bits of its row (R92) with its operands on
their ports, or the write of its command word to CMD. A selected operation is given the trigger of the
operation that selects it; the two TIMEOUT rows have no port, so theirs is the idle sample. -/
def Instr.sample : Instr → Sample
  | .regRead addr => { Sample.idle with busValid := true, busAddr := addr }
  | .regWrite addr w =>
    { Sample.idle with busValid := true, busWe := true, busAddr := addr, busWdata := w }
  | .nop rest => commandSample (Instr.nop rest).commandWord
  | .start rest => commandSample (Instr.start rest).commandWord
  | .clrStats rest => commandSample (Instr.clrStats rest).commandWord
  | .cmdReserved3 rest => commandSample (Instr.cmdReserved3 rest).commandWord
  | .cmdReserved47 low rest => commandSample (Instr.cmdReserved47 low rest).commandWord
  | .cmdReserved8F low rest => commandSample (Instr.cmdReserved8F low rest).commandWord
  | .send => commandSample Instr.send.commandWord
  | .rxData f => { Sample.idle with rxdValid := true, rxdFrame := f }
  | .rxAccept f => { Sample.idle with rxdValid := true, rxdFrame := f }
  | .rxDuplicate f => { Sample.idle with rxdValid := true, rxdFrame := f }
  | .rxDrop f => { Sample.idle with rxdValid := true, rxdFrame := f }
  | .rxAck a => { Sample.idle with rxaValid := true, rxaFrame := a }
  | .ackAccept a => { Sample.idle with rxaValid := true, rxaFrame := a }
  | .ackDiscard a => { Sample.idle with rxaValid := true, rxaFrame := a }
  | .timeoutRetransmit => .idle
  | .timeoutFail => .idle
  | .tick => { Sample.idle with tick := true }
  | .lossData => { Sample.idle with dataLost := true }
  | .lossAck => { Sample.idle with ackLost := true }

/-- The format of an operation's row. -/
def Instr.format : Instr → Format
  | .nop _ => .cmd
  | .start _ => .cmd
  | .clrStats _ => .cmd
  | .cmdReserved3 _ => .cmd
  | .cmdReserved47 _ _ => .cmd
  | .cmdReserved8F _ _ => .cmd
  | .send => .cmd
  | .regRead _ => .ccw
  | .regWrite _ _ => .ccw
  | .rxData _ => .ccw
  | .rxAccept _ => .ccw
  | .rxDuplicate _ => .ccw
  | .rxDrop _ => .ccw
  | .rxAck _ => .ccw
  | .ackAccept _ => .ccw
  | .ackDiscard _ => .ccw
  | .timeoutRetransmit => .ccw
  | .timeoutFail => .ccw
  | .tick => .ccw
  | .lossData => .ccw
  | .lossAck => .ccw

/-- The CCW pattern that triggers an operation, as R92 lists it. -/
def Instr.ccw : Instr → Byte
  | .regRead _ => 0x01
  | .regWrite _ _ => 0x03
  | .nop _ => 0x03
  | .start _ => 0x03
  | .clrStats _ => 0x03
  | .cmdReserved3 _ => 0x03
  | .cmdReserved47 _ _ => 0x03
  | .cmdReserved8F _ _ => 0x03
  | .send => 0x03
  | .rxData _ => 0x04
  | .rxAccept _ => 0x04
  | .rxDuplicate _ => 0x04
  | .rxDrop _ => 0x04
  | .rxAck _ => 0x08
  | .ackAccept _ => 0x08
  | .ackDiscard _ => 0x08
  | .timeoutRetransmit => 0x80
  | .timeoutFail => 0x80
  | .tick => 0x10
  | .lossData => 0x20
  | .lossAck => 0x40

/-- The words of an operation: the byte image of its CCW with its operands, or its command word. -/
def encode (i : Instr) : List Byte :=
  match i.format with
  | .ccw => imageWith i.ccw i.sample
  | .cmd => wordImage i.commandWord

/-- The `n` low bytes of a number, low byte first. -/
def bytesOfNat (n w : Nat) : List Byte := (List.range n).map fun k => BitVec.ofNat 8 (w / 256 ^ k)

/-- The bytes of an image before the payload. -/
def imageHeaderBytes : Nat := 21

/-- The byte image of a table word of the CCW format: the word's `nbits` bits, then zeros. -/
def tableImage (nbits w : Nat) : List Byte := bytesOfNat imageHeaderBytes (w % 2 ^ nbits)

/-- The four bytes of a table word of the CMD format. -/
def tableCommand (nbits w : Nat) : List Byte := bytesOfNat 4 (w % 2 ^ nbits)

/-- The operation of a table word (log 8). A 32-bit word has the CMD format, any other width the CCW format. A
word of at most 8 bits that no CCW row matches is read as the low bits of a command word: only a CMD row of the
table has such a pattern. -/
def decodeTableWord (nbits w : Nat) : Option Instr :=
  if nbits = 32 then (decode .cmd (tableCommand nbits w)).toOption
  else
    match decode .ccw (tableImage nbits w) with
    | .ok i => some i
    | .error .noOperation => if nbits ≤ 8 then (decode .cmd (tableCommand nbits w)).toOption else none
    | .error _ => none

end Sys2Proof
end

