-- ==== Sys2Proof/Machine/Frame.lean ====
section
/-! DEFINITION. The frame checksum generator, builders and verifiers (40_frame_checksum): pure functions. -/

namespace Sys2Proof

/-- CSUM (R110): the sum of the bytes, unsigned, modulo 2^32. -/
def checksum : List Byte → Word
  | [] => 0
  | b :: bs => b.setWidth 32 + checksum bs

/-- The meaningful payload of a record: bytes `[0, len)` (R80). -/
def DataFrame.body (f : DataFrame) : List Byte :=
  (List.range f.len.toNat).map fun k => f.payload.getD k 0

/-- IMAGE of a data frame (R111): type, seq, len low byte first, then the payload bytes. -/
def DataFrame.image (f : DataFrame) : List Byte :=
  [f.type, f.seq, halfLane f.len 0, halfLane f.len 1] ++ f.body

/-- IMAGE of an ack frame (R112). -/
def AckFrame.image (a : AckFrame) : List Byte := [a.type, a.ack]

/-- A data record of `bytes` with zero fill up to `size` positions and its checksum set last (R113). -/
def buildData (size : Nat) (seq : Bit) (bytes : List Byte) : DataFrame :=
  let f : DataFrame :=
    ⟨0x01, seq.setWidth 8, BitVec.ofNat 16 bytes.length, bytes ++ List.replicate (size - bytes.length) 0, 0⟩
  { f with csum := checksum f.image }

/-- MKDATA (R113): `none` is InvalidPayload, when there are more than MAX_DATA_SIZE bytes (R114). -/
def mkData (p : Params) (seq : Bit) (bytes : List Byte) : Option DataFrame :=
  if p.maxDataSize < bytes.length then none else some (buildData p.maxDataSize seq bytes)

/-- MKACK (R115), from the 8-bit acknowledgment number (R90). -/
def mkAck (number : Byte) : AckFrame :=
  let a : AckFrame := ⟨0x02, number, 0⟩
  { a with csum := checksum a.image }

/-- WF_DATA (R116). -/
def DataFrame.wf (p : Params) (f : DataFrame) : Bool :=
  f.type == 0x01 && decide (f.seq.toNat ≤ 1) && decide (f.len.toNat ≤ p.maxDataSize)

/-- WF_ACK (R117). -/
def AckFrame.wf (a : AckFrame) : Bool := a.type == 0x02 && decide (a.ack.toNat ≤ 1)

/-- VERIFY_DATA (R118). -/
def DataFrame.verify (f : DataFrame) : Bool := f.csum == checksum f.image

/-- VERIFY_ACK (R119). -/
def AckFrame.verify (a : AckFrame) : Bool := a.csum == checksum a.image

/-- VALID_DATA (R120). -/
def DataFrame.valid (p : Params) (f : DataFrame) : Bool := f.wf p && f.verify

/-- VALID_ACK (R120). -/
def AckFrame.valid (a : AckFrame) : Bool := a.wf && a.verify

end Sys2Proof
end

