-- ==== Sys2Proof/Machine/State.lean ====
section
/-! DEFINITION. The state of the block (10_state), the agents around it, and the state after reset
(70_reset R260). Plain data throughout. -/

namespace Sys2Proof.Machine

/-- TX_STATE (R20): IDLE = 0, AWAITING_ACK = 1. -/
inductive TxState where
  | idle
  | awaitingAck
  deriving DecidableEq, Repr

/-- The receiver's protocol state (R26): the single value AWAITING_DATA. -/
inductive RxState where
  | awaitingData
  deriving DecidableEq, Repr

/-- The condition names of 60_exceptions R230; their codes are `Cond.code` in Flags. -/
inductive Cond where
  | none
  | emptyMessage
  | messageTooLarge
  | invalidPayload
  | permanentFailure
  | frameCorrupted
  | ackMismatch
  | timeout
  | busy
  | badCommand
  | duplicateFrame
  deriving DecidableEq, Repr

/-- CFG (R30): REACK_DUP, PERSIST, IRQ_EN. -/
structure Cfg where
  reackDup : Bool
  persist : Bool
  irqEn : Bool
  deriving DecidableEq, Repr

/-- The bits of STATUS that are stored (R31); TX_STATE, TX_SEQ, RX_EXP and RETRY there are copies. -/
structure Status where
  done : Bool
  success : Bool
  cmdErr : Bool
  err : BitVec 4
  deriving DecidableEq, Repr

/-- The statistics bank (R37). -/
structure Stats where
  framesSent : Word
  framesReceived : Word
  acksSent : Word
  acksReceived : Word
  retransmissions : Word
  framesLost : Word
  startTime : Word
  endTime : Word
  deriving DecidableEq, Repr

/-- The output ports of a cycle (R88). A frame port whose valid bit is 0 is `none`. -/
structure Outputs where
  busRdata : Word
  busErr : Bool
  txd : Option DataFrame
  txa : Option AckFrame
  rxDeliver : Bool
  irq : Bool
  deriving DecidableEq, Repr

/-- All outputs 0 (R95, R260). -/
def Outputs.zero : Outputs := ⟨0, false, none, none, false, false⟩

/-- A frame in flight in one direction of the channel (44_network_path R212): the ticks counted since the cycle
after its emission (R214), its fate (R211), and the cycles it still waits at least. -/
structure Flight (α : Type) where
  frame : α
  ticks : Nat
  fate : Fate
  wait : Nat
  deriving DecidableEq, Repr

/-- The channel agent (R210, R212): its configuration and one slot for each direction. It is no part of the
block (R43). -/
structure Channel where
  net : NetConfig
  data : Option (Flight DataFrame)
  ack : Option (Flight AckFrame)
  deriving DecidableEq, Repr

/-- The payload buffers as (bus address, byte) cells, strictly rising by address (`Memory.wf` in Ops): TX_BUF
byte k at 0x1000 + k, RX_BUF byte k at 0x2000 + k (20_memory R61). A listed cell is a byte written since
reset; what an unlisted one reads as is `State.bufByte` in Ops (log 4, log 15). -/
abbrev Memory := List Host.Cell

/-- The machine: the block's registers and buffers, the outputs of the cycle, and the environment. -/
@[ext]
structure State where
  /-- MAX_DATA_SIZE, MAX_RETRIES, TIMEOUT_TICKS: constants, readable as PARAM0 and PARAM1 (R6, R34) -/
  params : Params
  /-- TX_STATE (R20) -/
  txState : TxState
  /-- TX_SEQ (R21) -/
  txSeq : Bit
  /-- RETRY (R22) -/
  retry : Byte
  /-- TIMER (R23) -/
  timer : Word
  /-- TXF (R25); TX_CSUM is its checksum (R35) -/
  txf : DataFrame
  /-- RX_EXP (R27) -/
  rxExp : Bit
  /-- RX_LEN (R28) -/
  rxLen : Half
  /-- RX_SEQ (R28) -/
  rxSeq : Bit
  /-- RX_VALID (R28) -/
  rxValid : Bool
  /-- MSG_LEN (R29) -/
  msgLen : Half
  /-- CFG (R30) -/
  cfg : Cfg
  /-- STATUS (R31) -/
  status : Status
  /-- COND.CODE (R32) -/
  cond : BitVec 4
  /-- the statistics bank (R37) -/
  stats : Stats
  /-- TIME (R38) -/
  time : Word
  /-- TX_BUF and RX_BUF (R28, R29) -/
  mem : Memory
  /-- `restarted`, the variable of one cycle (R24) -/
  restarted : Bool
  /-- the output ports of the cycle (R88) -/
  out : Outputs
  /-- the model's own: how many resets have drawn the unspecified bytes anew (log 4) -/
  epoch : Nat
  /-- the channel agent (R210) -/
  chan : Channel
  /-- the environment's part of the cycles to come (R94, R99) -/
  script : List Stimulus
  deriving DecidableEq, Repr

/-- The receiver's protocol state takes no storage (R26). -/
def State.rxState (_ : State) : RxState := .awaitingData

/-- Why a step stops. The block has no trap and no fatal condition (60_exceptions R233: "The block takes no
trap"), so there is no constructor: no step faults. A bus error is a response on `bus_err_o`, after which the
block goes on (R63). -/
inductive Fault where
  deriving DecidableEq, Repr

/-- Why the model refuses a step. -/
inductive Refusal where
  /-- raised by `exec` for an instruction that has no meaning yet, under its mnemonic (none is left); safe -/
  | notModelled (mnemonic : String)
  /-- raised by `step` for parameter values outside the ranges of 00_scope R7 ("A model refuses parameter
  values outside these ranges"); safe -/
  | parameterOutOfRange
  deriving DecidableEq, Repr

/-- The state after reset with parameters `p`: every element of 10_state at the value given with it (R260).
The payload bytes of TXF and the bytes of the buffers, unspecified there, are the free values of `epoch`
(log 4). The channel and the script are no state of the block and are given. -/
def State.resetWith (p : Params) (epoch : Nat) (chan : Channel) (script : List Stimulus) : State where
  params := p
  txState := .idle
  txSeq := 0
  retry := 0
  timer := 0
  txf := ⟨0, 0, 0, (List.range p.maxDataSize).map (Config.resetTxfByte epoch), 0⟩
  rxExp := 0
  rxLen := 0
  rxSeq := 0
  rxValid := false
  msgLen := 0
  cfg := ⟨false, false, false⟩
  status := ⟨false, false, false, 0⟩
  cond := 0
  stats := ⟨0, 0, 0, 0, 0, 0, 0, 0⟩
  time := 0
  mem := []
  restarted := false
  out := .zero
  epoch := epoch
  chan := chan
  script := script

/-- The machine right after reset, with the parameters of Config (log 1), empty channel slots (log 10) and no
input placed yet (log 5, log 6). -/
def State.reset : State := State.resetWith Config.params 0 ⟨Config.net, none, none⟩ []

end Sys2Proof.Machine
end

