-- ==== Sys2Proof/Machine/Ops.lean ====
section
/-! DEFINITION. The named operations over the registers and the payload buffers: one update for each field,
memory cells and buffer bytes (20_memory R61, R65), emissions (30_encoding R96), the condition register
(60_exceptions R230), termination and its return (R234, R236), and sequencing. -/

namespace Sys2Proof.Machine

/-! ### One update for each field -/

def State.setTxState (s : State) (v : TxState) : State := { s with txState := v }
def State.setTxSeq (s : State) (v : Bit) : State := { s with txSeq := v }
def State.setRetry (s : State) (v : Byte) : State := { s with retry := v }
def State.setTimer (s : State) (v : Word) : State := { s with timer := v }
def State.setTxf (s : State) (v : DataFrame) : State := { s with txf := v }
def State.setRxExp (s : State) (v : Bit) : State := { s with rxExp := v }
def State.setRxLen (s : State) (v : Half) : State := { s with rxLen := v }
def State.setRxSeq (s : State) (v : Bit) : State := { s with rxSeq := v }
def State.setRxValid (s : State) (v : Bool) : State := { s with rxValid := v }
def State.setMsgLen (s : State) (v : Half) : State := { s with msgLen := v }
def State.setCfg (s : State) (v : Cfg) : State := { s with cfg := v }
def State.setStatus (s : State) (v : Status) : State := { s with status := v }
def State.setCond (s : State) (v : BitVec 4) : State := { s with cond := v }
def State.setStats (s : State) (v : Stats) : State := { s with stats := v }
def State.setTime (s : State) (v : Word) : State := { s with time := v }
def State.setMem (s : State) (v : Memory) : State := { s with mem := v }
def State.setRestarted (s : State) (v : Bool) : State := { s with restarted := v }
def State.setOut (s : State) (v : Outputs) : State := { s with out := v }
def State.setChan (s : State) (v : Channel) : State := { s with chan := v }
def State.setScript (s : State) (v : List Stimulus) : State := { s with script := v }

/-! ### Memory cells -/

/-- The byte listed at an address, if there is one. -/
def Memory.read? : Memory → Nat → Option Byte
  | [], _ => none
  | (x, v) :: m, a => if x = a then some v else Memory.read? m a

/-- List a byte at an address, in rising order. -/
def Memory.write : Memory → Nat → Byte → Memory
  | [], a, b => [(a, b)]
  | (x, v) :: m, a, b =>
    if a < x then (a, b) :: (x, v) :: m
    else if a = x then (a, b) :: m
    else (x, v) :: Memory.write m a b

/-- Every address of the list lies above `low`, and the list is strictly rising. -/
def Memory.risesFrom : Nat → Memory → Bool
  | _, [] => true
  | low, (x, _) :: m => decide (low ≤ x) && Memory.risesFrom (x + 1) m

/-- The canonical form: addresses strictly rising. An unlisted address has no written byte, so a listed byte
never equals what an unlisted one reads as. -/
def Memory.wf (m : Memory) : Bool := Memory.risesFrom 0 m

/-! ### Payload buffers -/

/-- The two host-visible payload buffers. -/
inductive Buffer where
  | tx
  | rx
  deriving DecidableEq, Repr

/-- The bus address of byte 0 of a buffer (R61). -/
def Buffer.base : Buffer → Nat
  | .tx => 0x1000
  | .rx => 0x2000

/-- Byte `k` of a buffer: the byte written last; the free value of this reset epoch where nothing has been
written since (R260, log 4); 0 at `k ≥ MAX_DATA_SIZE`, where no byte exists (R65). -/
def State.bufByte (s : State) (b : Buffer) (k : Nat) : Byte :=
  if k < s.params.maxDataSize then
    (Memory.read? s.mem (b.base + k)).getD (Config.resetByte s.epoch (b.base + k))
  else 0

/-- Write byte `k` of a buffer; ignored at `k ≥ MAX_DATA_SIZE` (R65). -/
def State.setBufByte (s : State) (b : Buffer) (k : Nat) (v : Byte) : State :=
  if k < s.params.maxDataSize then s.setMem (Memory.write s.mem (b.base + k) v) else s

/-- MemRead(buf, k, n) (00_scope R9). -/
def State.memRead (s : State) (b : Buffer) (k n : Nat) : List Byte :=
  (List.range n).map fun j => s.bufByte b (k + j)

/-- MemWrite(buf, k, n, bytes) with n bytes given (00_scope R9). -/
def State.memWrite (s : State) (b : Buffer) (k : Nat) : List Byte → State
  | [] => s
  | v :: vs => (s.setBufByte b k v).memWrite b (k + 1) vs

/-- The word of a payload window whose first byte index is `k` (R61). -/
def State.windowWord (s : State) (b : Buffer) (k : Nat) : Word :=
  wordOfLanes (s.bufByte b k) (s.bufByte b (k + 1)) (s.bufByte b (k + 2)) (s.bufByte b (k + 3))

/-! ### Statistics, emissions, conditions, termination -/

/-- `inc(C)` of the statistics bank (00_scope R9: modulo 2^32). -/
def State.incFramesSent (s : State) : State := s.setStats { s.stats with framesSent := s.stats.framesSent + 1 }
def State.incFramesReceived (s : State) : State :=
  s.setStats { s.stats with framesReceived := s.stats.framesReceived + 1 }
def State.incAcksSent (s : State) : State := s.setStats { s.stats with acksSent := s.stats.acksSent + 1 }
def State.incAcksReceived (s : State) : State :=
  s.setStats { s.stats with acksReceived := s.stats.acksReceived + 1 }
def State.incRetransmissions (s : State) : State :=
  s.setStats { s.stats with retransmissions := s.stats.retransmissions + 1 }
def State.incFramesLost (s : State) : State := s.setStats { s.stats with framesLost := s.stats.framesLost + 1 }

/-- `emit txd(frame)`: the port carries the record for this cycle (R96). -/
def State.emitData (s : State) (f : DataFrame) : State := s.setOut { s.out with txd := some f }

/-- `emit txa(frame)` (R96). -/
def State.emitAck (s : State) (a : AckFrame) : State := s.setOut { s.out with txa := some a }

/-- The code of a condition (R230). -/
def Cond.code : Cond → BitVec 4
  | .none => 0x0
  | .emptyMessage => 0x1
  | .messageTooLarge => 0x2
  | .invalidPayload => 0x3
  | .permanentFailure => 0x4
  | .frameCorrupted => 0x5
  | .ackMismatch => 0x6
  | .timeout => 0x7
  | .busy => 0x8
  | .badCommand => 0x9
  | .duplicateFrame => 0xA

/-- `raise Cond(c)`: writes COND.CODE and has no other effect (R230). -/
def State.raiseCond (s : State) (c : Cond) : State := s.setCond c.code

/-- Termination, the block's trap-entry analogue (R234): DONE is set and SUCCESS and ERR take the outcome. -/
def State.terminate (s : State) (success : Bool) (err : BitVec 4) : State :=
  s.setStatus { s.status with done := true, success := success, err := err }

/-- The return from a termination (R236): DONE is cleared. -/
def State.clearDone (s : State) : State := s.setStatus { s.status with done := false }

/-- Set the sticky CMDERR of a refused command (R232). -/
def State.setCmdErr (s : State) : State := s.setStatus { s.status with cmdErr := true }

/-- Run a continuation on a next state; a stop stays. -/
def andThen (o : Host.Outcome State Fault Refusal) (k : State → Host.Outcome State Fault Refusal) :
    Host.Outcome State Fault Refusal :=
  match o with
  | .next s => k s
  | .fault r => .fault r
  | .refused r => .refused r

end Sys2Proof.Machine
end

