-- ==== Sys2Proof/Machine/Channel.lean ====
section
/-! DEFINITION. The channel agent (44_network_path): each emission gets its fate and its delay when it is emitted, as
a free choice within R214 and R217 (`Draw`), and meets exactly that fate unless a new emission replaces it (R211,
R212). The agent is the block's environment, so an input sample may also hold any other record (R215; log 10). -/

namespace Sys2Proof.Machine

/-- The fate the loss law allows (R217): p = 0 delivers every frame, p = 1 drops every frame, any other p leaves the
drawn fate. -/
def settle (law : LossLaw) (drawn : Fate) : Fate :=
  match law with
  | .never => .deliver
  | .always => .drop
  | .either => drawn

/-- What a slot does in a cycle: nothing, present its frame, or report it lost (R211). -/
inductive SlotEvent (α : Type) where
  | quiet
  | present (frame : α)
  | lost
  deriving DecidableEq, Repr

/-- What a frame in flight does in a cycle with `tick_i` = `tick`. A dropped frame is reported after its wait, with no
delay bound (R214). A delivered frame is presented after its wait and not before `minDelay` ticks; in the last cycle
that still has at most `maxDelay` ticks before it, it is presented even if it would wait longer (R214). -/
def Flight.event {α : Type} (net : NetConfig) (tick : Bool) (f : Flight α) : SlotEvent α :=
  match f.fate with
  | .drop => if f.wait = 0 then .lost else .quiet
  | .deliver =>
    if net.minDelay ≤ f.ticks ∧ (f.wait = 0 ∨ (tick = true ∧ net.maxDelay ≤ f.ticks)) then .present f.frame
    else .quiet

/-- What a slot does in a cycle. -/
def slotEvent {α : Type} (net : NetConfig) (tick : Bool) (slot : Option (Flight α)) : SlotEvent α :=
  match slot with
  | none => .quiet
  | some f => f.event net tick

/-- The frame a slot presents in a cycle, if it presents one. -/
def slotFrame {α : Type} (net : NetConfig) (tick : Bool) (slot : Option (Flight α)) : Option α :=
  match slotEvent net tick slot with
  | .present f => some f
  | .quiet => none
  | .lost => none

/-- Whether a slot reports its frame lost in a cycle. -/
def slotLost {α : Type} (net : NetConfig) (tick : Bool) (slot : Option (Flight α)) : Bool :=
  match slotEvent net tick slot with
  | .lost => true
  | .quiet => false
  | .present _ => false

/-- A slot after a cycle without an emission: a frame that met its fate has left it (R211), another one ages by the
cycle and its tick (R214). -/
def keptSlot {α : Type} (net : NetConfig) (tick : Bool) (slot : Option (Flight α)) : Option (Flight α) :=
  match slot with
  | none => none
  | some f =>
    match f.event net tick with
    | .quiet => some ⟨f.frame, f.ticks + tick.toNat, f.fate, f.wait - 1⟩
    | .present _ => none
    | .lost => none

/-- A slot after a cycle: an emission takes it, with the fate the loss law leaves and no tick counted, and replaces
what it held (R212). DESIGN CHOICE (log 21): a frame whose fate falls in the very cycle of a new emission still meets
it in that cycle, since `Channel.present` reads the slot at the start of the cycle; R212 leaves this tie open. -/
def nextSlot {α : Type} (net : NetConfig) (draw : Draw) (slot : Option (Flight α)) (emitted : Option α)
    (tick : Bool) : Option (Flight α) :=
  match emitted with
  | some f => some ⟨f, 0, settle net.loss draw.fate, draw.wait⟩
  | none => keptSlot net tick slot

/-- The input sample with the channel's frames laid over it: a delivered frame on `rxd` or `rxa`, a loss report on
`data_lost_i` or `ack_lost_i` (R210, R211). A record the sample itself presents on a port stands there instead (R215;
log 10). -/
def Channel.present (c : Channel) (st : Stimulus) : Sample :=
  let I := st.sample
  { I with
    rxdValid := I.rxdValid || (slotFrame c.net I.tick c.data).isSome
    rxdFrame := if I.rxdValid then I.rxdFrame else (slotFrame c.net I.tick c.data).getD I.rxdFrame
    rxaValid := I.rxaValid || (slotFrame c.net I.tick c.ack).isSome
    rxaFrame := if I.rxaValid then I.rxaFrame else (slotFrame c.net I.tick c.ack).getD I.rxaFrame
    dataLost := I.dataLost || slotLost c.net I.tick c.data
    ackLost := I.ackLost || slotLost c.net I.tick c.ack }

/-- The channel after a cycle with outputs `o`. DESIGN CHOICE (log 22): no step changes NetworkConfig, neither between
messages nor at a reset; R210 makes it immutable for a transmission run and is silent on what lies between runs.
DESIGN CHOICE (log 23): no act empties a slot, so a frame leaves it by its fate or by replacement only; 70_reset R269
lets the host reset the channel and does not say how. -/
def Channel.after (c : Channel) (st : Stimulus) (o : Outputs) : Channel where
  net := c.net
  data := nextSlot c.net st.dataDraw c.data o.txd st.sample.tick
  ack := nextSlot c.net st.ackDraw c.ack o.txa st.sample.tick

/-- What a slot does in the cycles to come while nothing new is emitted, given their ticks. -/
def slotHistory {α : Type} (net : NetConfig) : Option (Flight α) → List Bool → List (SlotEvent α)
  | _, [] => []
  | slot, tick :: ticks => slotEvent net tick slot :: slotHistory net (keptSlot net tick slot) ticks

/-- A frame in flight has a fate the loss law allows (R217), and one that is to be delivered can still be
(R214). -/
def Flight.lawful {α : Type} (net : NetConfig) (f : Flight α) : Bool :=
  f.fate == settle net.loss f.fate && (f.fate == .drop || decide (f.ticks ≤ net.maxDelay))

/-- The channel keeps its contract: the delays are ordered (R210), and so is every frame in flight. -/
def Channel.lawful (c : Channel) : Bool :=
  decide (c.net.minDelay ≤ c.net.maxDelay) && c.data.all (Flight.lawful c.net) && c.ack.all (Flight.lawful c.net)

/-- A slot without a frame whose fate falls in a cycle with `tick_i` = `tick`. -/
def undueSlot {α : Type} (net : NetConfig) (tick : Bool) (slot : Option (Flight α)) : Option (Flight α) :=
  match slotEvent net tick slot with
  | .quiet => slot
  | .present _ => none
  | .lost => none

/-- The channel without the frames whose fates fall in the next cycle, so that it adds nothing to the sample. -/
def Channel.undue (c : Channel) (tick : Bool) : Channel where
  net := c.net
  data := undueSlot c.net tick c.data
  ack := undueSlot c.net tick c.ack

end Sys2Proof.Machine
end

