-- ==== Sys2Proof/Machine/Operands.lean ====
section
/-! DEFINITION. Operands: bus addresses (20_memory R63), the operands START takes from state (30_encoding R89),
the numbers frames and registers are compared by (R90). -/

namespace Sys2Proof.Machine

/-- What a bus address names (10_state R40, 20_memory R61); `none` is a bus error: misaligned, or unmapped
(0x0048–0x0FFF, 0x3000–0xFFFF) (R63). -/
def decodeAddr (addr : Half) : Option BusTarget :=
  let a := addr.toNat
  if a % 4 ≠ 0 then none
  else if a = 0x000 then some .cmd
  else if a = 0x004 then some .cfg
  else if a = 0x008 then some .status
  else if a = 0x00C then some .cond
  else if a = 0x010 then some .msgLen
  else if a = 0x014 then some .rxStatus
  else if a = 0x018 then some .param0
  else if a = 0x01C then some .param1
  else if a = 0x020 then some (.stat .framesSent)
  else if a = 0x024 then some (.stat .framesReceived)
  else if a = 0x028 then some (.stat .acksSent)
  else if a = 0x02C then some (.stat .acksReceived)
  else if a = 0x030 then some (.stat .retransmissions)
  else if a = 0x034 then some (.stat .framesLost)
  else if a = 0x038 then some (.stat .startTime)
  else if a = 0x03C then some (.stat .endTime)
  else if a = 0x040 then some .time
  else if a = 0x044 then some .txCsum
  else if 0x1000 ≤ a ∧ a < 0x2000 then some (.txBuf (a - 0x1000))
  else if 0x2000 ≤ a ∧ a < 0x3000 then some (.rxBuf (a - 0x2000))
  else none

/-- `len` of START: MSG_LEN, zero-extended (R89). -/
def State.startLen (s : State) : Nat := s.msgLen.toNat

/-- `payload` of START: TX_BUF[0, len) (R89). -/
def State.startPayload (s : State) : List Byte := s.memRead .tx 0 s.startLen

/-- The frame's sequence number is the one the receiver expects: `f.seq = zext_8(RX_EXP)`
(42_receiver R160). -/
def State.expects (s : State) (f : DataFrame) : Bool := f.seq == s.rxExp.setWidth 8

/-- The ack is one the transmitter waits for: AWAITING_ACK, VALID_ACK(a), `a.ack = zext_8(TX_SEQ)`
(41_transmitter R134). -/
def State.accepts (s : State) (a : AckFrame) : Bool :=
  s.txState == .awaitingAck && a.valid && a.ack == s.txSeq.setWidth 8

end Sys2Proof.Machine
end

