-- ==== Sys2Proof/Machine/Flags.lean ====
section
/-! DEFINITION. Every word the host reads (43_host_commands R192), the write-one-to-clear bits (R186, R187),
the interrupt output (10_state R42) and the timeout flag, CCW bit 7 (30_encoding R91). -/

namespace Sys2Proof.Machine

/-- TX_STATE as its bit (R20). -/
def TxState.bit : TxState → Bit
  | .idle => 0
  | .awaitingAck => 1

/-- CFG as a word (R192 at 0x004). -/
def State.cfgWord (s : State) : Word :=
  0#29 ++ BitVec.ofBool s.cfg.irqEn ++ BitVec.ofBool s.cfg.persist ++ BitVec.ofBool s.cfg.reackDup

/-- STATUS as a word (R192 at 0x008). -/
def State.statusWord (s : State) : Word :=
  0#8 ++ s.retry ++ 0#4 ++ s.status.err ++ 0#2 ++ BitVec.ofBool s.status.cmdErr
    ++ BitVec.ofBool s.status.success ++ BitVec.ofBool s.status.done ++ s.rxExp ++ s.txSeq ++ s.txState.bit

/-- COND as a word (R192 at 0x00C). -/
def State.condWord (s : State) : Word := 0#28 ++ s.cond

/-- MSG_LEN as a word (R192 at 0x010). -/
def State.msgLenWord (s : State) : Word := 0#16 ++ s.msgLen

/-- RX_STATUS as a word (R192 at 0x014). -/
def State.rxStatusWord (s : State) : Word :=
  BitVec.ofBool s.rxValid ++ 0#14 ++ s.rxSeq ++ s.rxLen

/-- PARAM0 (R34, R192 at 0x018). -/
def State.param0Word (s : State) : Word :=
  0#8 ++ BitVec.ofNat 8 s.params.maxRetries ++ BitVec.ofNat 16 s.params.maxDataSize

/-- PARAM1 (R34, R192 at 0x01C). -/
def State.param1Word (s : State) : Word := BitVec.ofNat 32 s.params.timeoutTicks

/-- A statistics register (R37). -/
def Stats.word (t : Stats) : StatReg → Word
  | .framesSent => t.framesSent
  | .framesReceived => t.framesReceived
  | .acksSent => t.acksSent
  | .acksReceived => t.acksReceived
  | .retransmissions => t.retransmissions
  | .framesLost => t.framesLost
  | .startTime => t.startTime
  | .endTime => t.endTime

/-- READVAL (R192): the one operation that reads a host register or a window word. CMD reads 0 (R36). -/
def State.readTarget (s : State) : BusTarget → Word
  | .cmd => 0
  | .cfg => s.cfgWord
  | .status => s.statusWord
  | .cond => s.condWord
  | .msgLen => s.msgLenWord
  | .rxStatus => s.rxStatusWord
  | .param0 => s.param0Word
  | .param1 => s.param1Word
  | .stat r => s.stats.word r
  | .time => s.time
  | .txCsum => s.txf.csum
  | .txBuf k => s.windowWord .tx k
  | .rxBuf k => s.windowWord .rx k

/-- `irq_o` from a state (R42, R235). -/
def State.irq (s : State) : Bool := s.status.done && s.cfg.irqEn

/-- `txd_valid_o`: 1 in a cycle in which a sub-step emits on `txd` (R88, 30_encoding R96). -/
def Outputs.txdValid (o : Outputs) : Bool := o.txd.isSome

/-- `txd_frame_o`: the emitted record; all fields 0 while the valid bit is 0 (R88). -/
def Outputs.txdFrame (p : Params) (o : Outputs) : DataFrame :=
  o.txd.getD { DataFrame.zero with payload := List.replicate p.maxDataSize 0 }

/-- `txa_valid_o` (R88). -/
def Outputs.txaValid (o : Outputs) : Bool := o.txa.isSome

/-- `txa_frame_o`: the emitted record; all fields 0 while the valid bit is 0 (R88). -/
def Outputs.txaFrame (o : Outputs) : AckFrame := o.txa.getD .zero

/-- CCW bit 7 (R91): AWAITING_ACK and TIMER > TIMEOUT_TICKS, a strict comparison (41_transmitter R137). -/
def State.timedOut (s : State) : Bool :=
  s.txState == .awaitingAck && decide (s.params.timeoutTicks < s.timer.toNat)

/-- Budget is left: RETRY < MAX_RETRIES (R137). -/
def State.budgetLeft (s : State) : Bool := decide (s.retry.toNat < s.params.maxRetries)

/-- CFG_WRITE (R185): bits 31:3 are ignored. -/
def State.cfgWrite (s : State) (w : Word) : State :=
  s.setCfg ⟨w.getLsbD 0, w.getLsbD 1, w.getLsbD 2⟩

/-- STATUS_WRITE (R186): DONE (bit 3) and CMDERR (bit 5) are cleared by writing 1. -/
def State.statusWrite (s : State) (w : Word) : State :=
  let s := if w.getLsbD 3 then s.clearDone else s
  if w.getLsbD 5 then s.setStatus { s.status with cmdErr := false } else s

/-- RX_STATUS_WRITE (R187): RX_VALID (bit 31) is cleared by writing 1. -/
def State.rxStatusWrite (s : State) (w : Word) : State :=
  if w.getLsbD 31 then s.setRxValid false else s

/-- MSG_LEN_WRITE (R188): bits 31:16 are ignored. -/
def State.msgLenWrite (s : State) (w : Word) : State := s.setMsgLen (w.extractLsb' 0 16)

/-- TX_BUF_WRITE (R189) at byte index `k`: lane j goes to byte k + j; lanes past the buffer are ignored. -/
def State.txBufWrite (s : State) (k : Nat) (w : Word) : State :=
  s.memWrite .tx k [laneOf w 0, laneOf w 1, laneOf w 2, laneOf w 3]

end Sys2Proof.Machine
end

