-- ==== Sys2Proof/Machine/Transmitter.lean ====
section
/-! DEFINITION. The transmitter state machine and the retry counter (41_transmitter): SEND, the ack
operations, the timeout operations. The shared operations act on the cycle state; the meanings of the selected
operations run them when the guard of 30_encoding R92 holds, and leave the state alone when it does not
(log 9). -/

namespace Sys2Proof.Machine

/-- SEND(T) (R133). -/
def State.send (s : State) : State :=
  (((s.emitData s.txf).setTimer 0).setRestarted true).setTxState .awaitingAck |>.incFramesSent

/-- ACK_ACCEPT(T) (R135). -/
def State.ackAccept (s : State) : State :=
  (((s.setTxState .idle).setTxSeq (s.txSeq ^^^ 1)).setRetry 0).setStats { s.stats with endTime := s.time }
    |>.terminate true 0

/-- ACK_DISCARD(T) (R136). -/
def State.ackDiscard (s : State) : State := s.raiseCond .ackMismatch

/-- RETRANSMIT(T) (R138). -/
def State.retransmit (s : State) : State :=
  (((s.setRetry (s.retry + 1)).incRetransmissions.emitData s.txf).setTimer 0).setRestarted true
    |>.raiseCond .timeout

/-- FAIL(T) (R139). -/
def State.fail (s : State) : State :=
  ((s.setTxState .idle).setStats { s.stats with endTime := s.time }).terminate false Cond.permanentFailure.code
    |>.raiseCond .permanentFailure

/-- SEND: entered only from an accepted START (R133). -/
def execSend (s : State) : Host.Outcome State Fault Refusal := .next s.send

/-- RX_ACK (R134). -/
def execRxAck (a : AckFrame) (s : State) : Host.Outcome State Fault Refusal :=
  let t := s.incAcksReceived
  .next (if t.accepts a then t.ackAccept else t.ackDiscard)

/-- ACK_ACCEPT (R135), under its guard (R92). -/
def execAckAccept (a : AckFrame) (s : State) : Host.Outcome State Fault Refusal :=
  .next (if s.accepts a then s.ackAccept else s)

/-- ACK_DISCARD (R136), under its guard: otherwise (R92). -/
def execAckDiscard (a : AckFrame) (s : State) : Host.Outcome State Fault Refusal :=
  .next (if s.accepts a then s else s.ackDiscard)

/-- TIMEOUT_RETRANSMIT (R138), under CCW bit 7 and RETRY < MAX_RETRIES (R92, R137). -/
def execTimeoutRetransmit (s : State) : Host.Outcome State Fault Refusal :=
  .next (if s.timedOut && s.budgetLeft then s.retransmit else s)

/-- TIMEOUT_FAIL (R139), under CCW bit 7 and no budget left: the else branch of R137 (log 20). -/
def execTimeoutFail (s : State) : Host.Outcome State Fault Refusal :=
  .next (if s.timedOut && !s.budgetLeft then s.fail else s)

end Sys2Proof.Machine
end

