-- ==== Sys2Proof/Machine/Commands.lean ====
section
/-! DEFINITION. The commands of a CMD write: START (41_transmitter R131), NOP, CLR_STATS and the reserved
codes (43_host_commands R180–R182, R191). Bits 31:4 of the word are ignored (30_encoding R84). -/

namespace Sys2Proof.Machine

/-- REJECT(T, code) (R131): a START that ends without starting a message. -/
def State.reject (s : State) (c : Cond) : State := (s.terminate false c.code).raiseCond c

/-- The accepted part of START before SEND (R131): sequence numbers cleared unless PERSIST, RETRY, the result
bits and COND cleared, START_TIME latched. -/
def State.startMessage (s : State) : State :=
  let s := if s.cfg.persist then s else (s.setTxSeq 0).setRxExp 0
  let s := (s.setRetry 0).setStatus { s.status with done := false, success := false, err := 0 }
  (s.setCond Cond.none.code).setStats { s.stats with startTime := s.time }

/-- START(T) (R131). The last branch is MKDATA's InvalidPayload, which START cannot reach (R132; log 14). -/
def State.startCommand (s : State) : State :=
  if s.txState = .awaitingAck then s.setCmdErr.raiseCond .busy
  else if s.startLen = 0 then s.reject .emptyMessage
  else if s.params.maxDataSize ≤ s.startLen then s.reject .messageTooLarge
  else
    let t := s.startMessage
    match mkData t.params t.txSeq t.startPayload with
    | some f => (t.setTxf f).send
    | none => t.reject .invalidPayload

/-- CLR_STATS(T) (R181): TIME is not cleared. -/
def State.clearStats (s : State) : State := s.setStats ⟨0, 0, 0, 0, 0, 0, 0, 0⟩

/-- BADCMD(T) (R182). -/
def State.badCommand (s : State) : State := s.setCmdErr.raiseCond .badCommand

/-- CMD_WRITE(T, w) (R191): the command of bits 3:0. -/
def State.cmdWrite (s : State) (w : Word) : State :=
  let op := w.extractLsb' 0 4
  if op = 0x0 then s
  else if op = 0x1 then s.startCommand
  else if op = 0x2 then s.clearStats
  else s.badCommand

/-- NOP (R180): no effect. -/
def execNop (_ : BitVec 28) (s : State) : Host.Outcome State Fault Refusal := .next s

/-- START (R131). -/
def execStart (_ : BitVec 28) (s : State) : Host.Outcome State Fault Refusal := .next s.startCommand

/-- CLR_STATS (R181). -/
def execClrStats (_ : BitVec 28) (s : State) : Host.Outcome State Fault Refusal := .next s.clearStats

/-- A reserved command, OP 0x3 (R182). -/
def execCmdReserved3 (_ : BitVec 28) (s : State) : Host.Outcome State Fault Refusal := .next s.badCommand

/-- A reserved command, OP 0x4 to 0x7 (R182). -/
def execCmdReserved47 (_ : BitVec 2) (_ : BitVec 28) (s : State) : Host.Outcome State Fault Refusal :=
  .next s.badCommand

/-- A reserved command, OP 0x8 to 0xF (R182). -/
def execCmdReserved8F (_ : BitVec 3) (_ : BitVec 28) (s : State) : Host.Outcome State Fault Refusal :=
  .next s.badCommand

end Sys2Proof.Machine
end

