-- ==== Sys2Proof/Machine/HostBus.lean ====
section
/-! DEFINITION. Host register access (43_host_commands R183, R184): REG_READ and REG_WRITE. -/

namespace Sys2Proof.Machine

/-- The bus response of a cycle (30_encoding R86). -/
def State.respond (s : State) (rdata : Word) (err : Bool) : State :=
  s.setOut { s.out with busRdata := rdata, busErr := err }

/-- The write of R184 to a mapped word: read-only registers and the RX_BUF window ignore it (10_state R39). -/
def State.writeTarget (s : State) (w : Word) : BusTarget → State
  | .cmd => s.cmdWrite w
  | .cfg => s.cfgWrite w
  | .status => s.statusWrite w
  | .cond => s
  | .msgLen => s.msgLenWrite w
  | .rxStatus => s.rxStatusWrite w
  | .param0 => s
  | .param1 => s
  | .stat _ => s
  | .time => s
  | .txCsum => s
  | .txBuf k => s.txBufWrite k w
  | .rxBuf _ => s

/-- REG_READ (R183). In sub-step 1 every register still has its value of S (20_memory R66). -/
def execRegRead (addr : Half) (s : State) : Host.Outcome State Fault Refusal :=
  .next (match decodeAddr addr with
    | some t => s.respond (s.readTarget t) false
    | none => s.respond 0 true)

/-- REG_WRITE (R184): a bus error changes nothing but the response; `bus_rdata_o` is 0 on a write. -/
def execRegWrite (addr : Half) (wdata : Word) (s : State) : Host.Outcome State Fault Refusal :=
  .next (match decodeAddr addr with
    | some t => (s.respond 0 false).writeTarget wdata t
    | none => s.respond 0 true)

end Sys2Proof.Machine
end

