-- ==== Sys2Proof/Machine/Receiver.lean ====
section
/-! DEFINITION. The receiver state machine (42_receiver). -/

namespace Sys2Proof.Machine

/-- RX_ACCEPT(T, f) (R161). -/
def State.rxAccept (s : State) (f : DataFrame) : State :=
  let t := (((s.memWrite .rx 0 f.body).setRxLen f.len).setRxSeq (f.seq.extractLsb' 0 1)).setRxValid true
  let t := (t.setOut { t.out with rxDeliver := true }).emitAck (mkAck f.seq)
  t.incAcksSent.setRxExp (s.rxExp ^^^ 1)

/-- RX_DUPLICATE(T, f) (R162): the ack is sent again only with REACK_DUP = 1. -/
def State.rxDuplicate (s : State) (f : DataFrame) : State :=
  let t := s.raiseCond .duplicateFrame
  if t.cfg.reackDup then (t.emitAck (mkAck f.seq)).incAcksSent else t

/-- RX_DROP(T) (R163). -/
def State.rxDrop (s : State) : State := s.raiseCond .frameCorrupted

/-- RX_DATA (R160). -/
def execRxData (f : DataFrame) (s : State) : Host.Outcome State Fault Refusal :=
  let t := s.incFramesReceived
  .next (if !f.valid t.params then t.rxDrop
    else if t.expects f then t.rxAccept f
    else t.rxDuplicate f)

/-- RX_ACCEPT (R161), under its guard: valid and seq = RX_EXP (30_encoding R92). -/
def execRxAccept (f : DataFrame) (s : State) : Host.Outcome State Fault Refusal :=
  .next (if f.valid s.params && s.expects f then s.rxAccept f else s)

/-- RX_DUPLICATE (R162), under its guard: valid and seq ≠ RX_EXP (R92). -/
def execRxDuplicate (f : DataFrame) (s : State) : Host.Outcome State Fault Refusal :=
  .next (if f.valid s.params && !s.expects f then s.rxDuplicate f else s)

/-- RX_DROP (R163), under its guard: not valid (R92). -/
def execRxDrop (f : DataFrame) (s : State) : Host.Outcome State Fault Refusal :=
  .next (if f.valid s.params then s else s.rxDrop)

end Sys2Proof.Machine
end

