-- ==== Sys2Proof/Machine/TimeBase.lean ====
section
/-! DEFINITION. The time base (41_transmitter R141) and the channel's loss reports (43_host_commands R190). -/

namespace Sys2Proof.Machine

/-- TIMER counts up and saturates at 2^32 - 1 (R141). -/
def timerNext (t : Word) : Word := if t = 0xFFFFFFFF then t else t + 1

/-- TICK (R141): TIME counts every tick; TIMER counts in AWAITING_ACK, but not in the cycle of a (re)start. -/
def execTick (s : State) : Host.Outcome State Fault Refusal :=
  let t := s.setTime (s.time + 1)
  .next (if t.txState = .awaitingAck ∧ t.restarted = false then t.setTimer (timerNext t.timer) else t)

/-- LOSS_DATA (R190). -/
def execLossData (s : State) : Host.Outcome State Fault Refusal := .next s.incFramesLost

/-- LOSS_ACK (R190). -/
def execLossAck (s : State) : Host.Outcome State Fault Refusal := .next s.incFramesLost

end Sys2Proof.Machine
end

