-- ==== Sys2Proof/Machine/Dispatch.lean ====
section
/-! DEFINITION. One arm for each operation of the opcode table. -/

namespace Sys2Proof.Machine

def exec (i : Instr) (s : State) : Host.Outcome State Fault Refusal :=
  match i with
  | .regRead addr => Sys2Proof.Machine.execRegRead addr s
  | .regWrite addr wdata => Sys2Proof.Machine.execRegWrite addr wdata s
  | .nop ignored => Sys2Proof.Machine.execNop ignored s
  | .start ignored => Sys2Proof.Machine.execStart ignored s
  | .clrStats ignored => Sys2Proof.Machine.execClrStats ignored s
  | .cmdReserved3 ignored => Sys2Proof.Machine.execCmdReserved3 ignored s
  | .cmdReserved47 low ignored => Sys2Proof.Machine.execCmdReserved47 low ignored s
  | .cmdReserved8F low ignored => Sys2Proof.Machine.execCmdReserved8F low ignored s
  | .send => Sys2Proof.Machine.execSend s
  | .rxData f => Sys2Proof.Machine.execRxData f s
  | .rxAccept f => Sys2Proof.Machine.execRxAccept f s
  | .rxDuplicate f => Sys2Proof.Machine.execRxDuplicate f s
  | .rxDrop f => Sys2Proof.Machine.execRxDrop f s
  | .rxAck a => Sys2Proof.Machine.execRxAck a s
  | .ackAccept a => Sys2Proof.Machine.execAckAccept a s
  | .ackDiscard a => Sys2Proof.Machine.execAckDiscard a s
  | .timeoutRetransmit => Sys2Proof.Machine.execTimeoutRetransmit s
  | .timeoutFail => Sys2Proof.Machine.execTimeoutFail s
  | .tick => Sys2Proof.Machine.execTick s
  | .lossData => Sys2Proof.Machine.execLossData s
  | .lossAck => Sys2Proof.Machine.execLossAck s

end Sys2Proof.Machine
end

