-- ==== Sys2Proof/Machine/Cycle.lean ====
section
/-! DEFINITION. One clock edge (30_encoding R95): reset, or the sub-steps in their order, each operation run by
`exec`; and the channel agent around it. -/

namespace Sys2Proof.Machine

/-- Operations one after another, each on the state the one before left (R95). -/
def runInstrs : List Instr → State → Host.Outcome State Fault Refusal
  | [], s => .next s
  | i :: is, s => andThen (exec i s) (runInstrs is)

/-- The first line of a cycle (R95): `restarted` false, all outputs 0, `irq_o` from S. -/
def State.beginCycle (s : State) : State :=
  (s.setRestarted false).setOut { Outputs.zero with irq := s.irq }

/-- The end of a cycle: `restarted` lives for one cycle only (R24; log 12). -/
def State.endCycle (s : State) : State := s.setRestarted false

/-- The cycle with `rst_n` = 0 (70_reset R260): every state element takes its reset value and every output
is 0; the parameters are constants (R34); the unspecified bytes are drawn anew (log 4). -/
def State.resetCycle (s : State) : State := State.resetWith s.params (s.epoch + 1) s.chan s.script

/-- The operation of sub-step 4 (41_transmitter R137), chosen by the state that sub-step 3 left. -/
def State.timeoutInstrs (s : State) : List Instr :=
  if s.timedOut then (if s.budgetLeft then [.timeoutRetransmit] else [.timeoutFail]) else []

/-- One clock edge of the block with input sample `I`: `step(S, I)` of R95. -/
def cycle (I : Sample) (s : State) : Host.Outcome State Fault Refusal :=
  if I.rstN then
    andThen (runInstrs I.earlyInstrs s.beginCycle) fun t =>
      andThen (runInstrs t.timeoutInstrs t) fun u =>
        andThen (runInstrs I.lateInstrs u) fun v => .next v.endCycle
  else .next s.resetCycle

/-- What the environment does in the next cycle: the head of the script; a cycle the script does not list has
no bus request and no events (R99; log 5). -/
def State.stimulus (s : State) : Stimulus := s.script.headD .idle

/-- The input sample of the next cycle. -/
def State.sample (s : State) : Sample := s.chan.present s.stimulus

/-- The state with its next script entry taken off. -/
def State.fetched (s : State) : State := s.setScript s.script.tail

/-- One clock edge of the block and its environment: the sample is presented, the block takes its cycle, the
channel takes what the block emitted (R96, R212). The sample is fixed by the slots at the start of the cycle, before
its emissions (log 21). -/
def clockEdge (s : State) : Host.Outcome State Fault Refusal :=
  andThen (cycle s.sample s.fetched) fun t => .next (t.setChan (s.chan.after s.stimulus t.out))

/-- The environment's entry for a cycle that triggers one operation and nothing else. -/
def stimulusOf (i : Instr) : Stimulus := ⟨i.sample, .next, .next⟩

/-- Put an operation where the next cycle finds it: its trigger at the head of the script, and no frame of the
channel due in that cycle; for the TIMEOUT pattern, whose CCW bit no port carries, the condition of R91 that sets the
bit. -/
def State.place (s : State) (i : Instr) : State :=
  let t := (s.setScript (stimulusOf i :: s.script)).setChan (s.chan.undue i.sample.tick)
  if i.ccw = 0x80 then (t.setTxState .awaitingAck).setTimer (BitVec.ofNat 32 (s.params.timeoutTicks + 1)) else t

/-- A clock edge for parameter values within the ranges of 00_scope R7; others are refused (R7, I4). -/
def legalEdge (s : State) : Host.Outcome State Fault Refusal :=
  if s.params.legal then clockEdge s else .refused .parameterOutOfRange

/-- Put the operation of a table word where the next cycle finds it; a word that is no operation leaves an
idle cycle as the next one (log 6, log 8). -/
def State.placeWord (s : State) (nbits w : Nat) : State :=
  match decodeTableWord nbits w with
  | some i => s.place i
  | none => (s.setScript (.idle :: s.script)).setChan (s.chan.undue false)

end Sys2Proof.Machine
end

