-- ==== Sys2Proof/Machine/Step.lean ====
section
/-! DEFINITION. The step: one clock edge (`Machine/Cycle.lean`), and the host's way to place one operation. -/

namespace Sys2Proof.Machine

/-- One step is one clock edge (00_scope R11), for legal parameters (R7). -/
def step (s : State) : Host.Outcome State Fault Refusal := legalEdge s

/-- The state whose next step runs the operation of a table word (log 6, log 8). -/
def State.withFetchWord (s : State) (nbits w : Nat) : State := s.placeWord nbits w

end Sys2Proof.Machine
end

