-- ==== Sys2Proof/Laws/Channel.lean ====
section
/-! SUPPORT. The channel agent: what a frame in flight can do in a cycle, and that the contract of a lawful channel is
kept (44_network_path R211, R212, R214, R217). -/

namespace Sys2Proof.Machine

variable {α : Type} {net : NetConfig} {tick : Bool} {f : Flight α}

@[simp] theorem settle_never (d : Fate) : settle .never d = .deliver := rfl
@[simp] theorem settle_always (d : Fate) : settle .always d = .drop := rfl
@[simp] theorem settle_either (d : Fate) : settle .either d = d := rfl

/-- A settled fate is one the loss law allows. -/
@[simp] theorem settle_settle (law : LossLaw) (d : Fate) : settle law (settle law d) = settle law d := by
  cases law <;> rfl

/-- What a frame in flight does in a cycle, all cases (R211, R214). -/
theorem Flight.event_cases (net : NetConfig) (tick : Bool) (f : Flight α) :
    (f.event net tick = .lost ∧ f.fate = .drop ∧ f.wait = 0) ∨
      (f.event net tick = .quiet ∧ f.fate = .drop ∧ f.wait ≠ 0) ∨
      (f.event net tick = .present f.frame ∧ f.fate = .deliver ∧ net.minDelay ≤ f.ticks ∧
        (f.wait = 0 ∨ (tick = true ∧ net.maxDelay ≤ f.ticks))) ∨
      (f.event net tick = .quiet ∧ f.fate = .deliver ∧
        (f.ticks < net.minDelay ∨ (f.wait ≠ 0 ∧ (tick = true → f.ticks < net.maxDelay)))) := by
  unfold Flight.event
  cases hf : f.fate
  · by_cases h : net.minDelay ≤ f.ticks ∧ (f.wait = 0 ∨ (tick = true ∧ net.maxDelay ≤ f.ticks))
    · exact .inr (.inr (.inl ⟨if_pos h, rfl, h⟩))
    · refine .inr (.inr (.inr ⟨if_neg h, rfl, ?_⟩))
      by_cases hm : net.minDelay ≤ f.ticks
      · refine .inr ⟨fun h0 => h ⟨hm, .inl h0⟩, fun ht => Nat.lt_of_not_le fun hx => h ⟨hm, .inr ⟨ht, hx⟩⟩⟩
      · exact .inl (Nat.lt_of_not_le hm)
  · by_cases h : f.wait = 0
    · exact .inl ⟨if_pos h, rfl, h⟩
    · exact .inr (.inl ⟨if_neg h, rfl, h⟩)

/-- A frame that waits on stays lawful: a delivery is never put off past the greatest delay (R214). -/
theorem keptSlot_lawful (hn : net.minDelay ≤ net.maxDelay) {slot : Option (Flight α)}
    (h : slot.all (Flight.lawful net) = true) : (keptSlot net tick slot).all (Flight.lawful net) = true := by
  cases slot with
  | none => rfl
  | some f =>
    rcases f.event_cases net tick with ⟨he, -⟩ | ⟨he, hf, -⟩ | ⟨he, -⟩ | ⟨he, hf, hw⟩
    · simp [keptSlot, he]
    · simpa [keptSlot, he, Flight.lawful, hf] using h
    · simp [keptSlot, he]
    · simp only [Option.all_some, Flight.lawful, hf, Bool.and_eq_true, Bool.or_eq_true, beq_iff_eq, reduceCtorEq,
        decide_eq_true_eq, false_or, keptSlot, he] at h ⊢
      refine ⟨h.1, ?_⟩
      cases tick
      · simpa using h.2
      · have : f.ticks < net.maxDelay := by
          rcases hw with hw | ⟨-, hw⟩
          · omega
          · exact hw rfl
        simpa using this

/-- A slot stays lawful over a cycle: an emission has a settled fate and no ticks (R212, R217). -/
theorem nextSlot_lawful (hn : net.minDelay ≤ net.maxDelay) {slot : Option (Flight α)} (draw : Draw)
    (emitted : Option α) (h : slot.all (Flight.lawful net) = true) :
    (nextSlot net draw slot emitted tick).all (Flight.lawful net) = true := by
  cases emitted with
  | none => exact keptSlot_lawful hn h
  | some f => simp [nextSlot, Flight.lawful]

/-- The channel keeps its contract over every cycle. -/
theorem Channel.after_lawful {c : Channel} (h : c.lawful = true) (st : Stimulus) (o : Outputs) :
    (c.after st o).lawful = true := by
  simp only [Channel.lawful, Bool.and_eq_true, decide_eq_true_eq] at h ⊢
  exact ⟨⟨h.1.1, nextSlot_lawful h.1.1 _ _ h.1.2⟩, nextSlot_lawful h.1.1 _ _ h.2⟩

@[simp] theorem Channel.after_net (c : Channel) (st : Stimulus) (o : Outputs) : (c.after st o).net = c.net := rfl

/-- A slot presents a frame exactly when a delivery of that frame is due. -/
theorem slotFrame_eq_some_iff {slot : Option (Flight α)} {a : α} :
    slotFrame net tick slot = some a ↔ slotEvent net tick slot = .present a := by
  unfold slotFrame
  cases slotEvent net tick slot <;> simp

/-- A slot reports a loss exactly when a drop is due. -/
theorem slotLost_iff {slot : Option (Flight α)} :
    slotLost net tick slot = true ↔ slotEvent net tick slot = .lost := by
  unfold slotLost
  cases slotEvent net tick slot <;> simp

/-- What a slot that does nothing, presents or loses its frame shows at the ports. -/
theorem slotFrame_lost_of_event {slot : Option (Flight α)} :
    (slotEvent net tick slot = .quiet → slotFrame net tick slot = none ∧ slotLost net tick slot = false) ∧
      (∀ a, slotEvent net tick slot = .present a →
        slotFrame net tick slot = some a ∧ slotLost net tick slot = false) ∧
      (slotEvent net tick slot = .lost → slotFrame net tick slot = none ∧ slotLost net tick slot = true) := by
  unfold slotFrame slotLost
  cases slotEvent net tick slot <;> simp

/-- An empty slot does nothing while nothing is emitted. -/
theorem slotHistory_none (net : NetConfig) (ticks : List Bool) :
    slotHistory (α := α) net none ticks = List.replicate ticks.length .quiet := by
  induction ticks with
  | nil => rfl
  | cons t ts ih => simp [slotHistory, slotEvent, keptSlot, ih, List.replicate_succ]

/-- A slot whose frame met its fate is empty after a cycle without an emission (R211). -/
theorem keptSlot_of_event {slot : Option (Flight α)} (h : slotEvent net tick slot ≠ .quiet) :
    keptSlot net tick slot = none := by
  cases slot with
  | none => rfl
  | some f =>
    simp only [slotEvent] at h
    unfold keptSlot
    cases he : f.event net tick <;> simp_all

end Sys2Proof.Machine
end

