-- ==== Sys2Proof/Laws/State.lean ====
section
/-! SUPPORT. One lemma for each field and each update of State, so that no later proof unfolds an update. -/

namespace Sys2Proof.Machine

section
variable (s : State) (v : TxState)
@[simp] theorem State.setTxState_params : (s.setTxState v).params = s.params := rfl
@[simp] theorem State.setTxState_txState : (s.setTxState v).txState = v := rfl
@[simp] theorem State.setTxState_txSeq : (s.setTxState v).txSeq = s.txSeq := rfl
@[simp] theorem State.setTxState_retry : (s.setTxState v).retry = s.retry := rfl
@[simp] theorem State.setTxState_timer : (s.setTxState v).timer = s.timer := rfl
@[simp] theorem State.setTxState_txf : (s.setTxState v).txf = s.txf := rfl
@[simp] theorem State.setTxState_rxExp : (s.setTxState v).rxExp = s.rxExp := rfl
@[simp] theorem State.setTxState_rxLen : (s.setTxState v).rxLen = s.rxLen := rfl
@[simp] theorem State.setTxState_rxSeq : (s.setTxState v).rxSeq = s.rxSeq := rfl
@[simp] theorem State.setTxState_rxValid : (s.setTxState v).rxValid = s.rxValid := rfl
@[simp] theorem State.setTxState_msgLen : (s.setTxState v).msgLen = s.msgLen := rfl
@[simp] theorem State.setTxState_cfg : (s.setTxState v).cfg = s.cfg := rfl
@[simp] theorem State.setTxState_status : (s.setTxState v).status = s.status := rfl
@[simp] theorem State.setTxState_cond : (s.setTxState v).cond = s.cond := rfl
@[simp] theorem State.setTxState_stats : (s.setTxState v).stats = s.stats := rfl
@[simp] theorem State.setTxState_time : (s.setTxState v).time = s.time := rfl
@[simp] theorem State.setTxState_mem : (s.setTxState v).mem = s.mem := rfl
@[simp] theorem State.setTxState_restarted : (s.setTxState v).restarted = s.restarted := rfl
@[simp] theorem State.setTxState_out : (s.setTxState v).out = s.out := rfl
@[simp] theorem State.setTxState_epoch : (s.setTxState v).epoch = s.epoch := rfl
@[simp] theorem State.setTxState_chan : (s.setTxState v).chan = s.chan := rfl
@[simp] theorem State.setTxState_script : (s.setTxState v).script = s.script := rfl
end

section
variable (s : State) (v : Bit)
@[simp] theorem State.setTxSeq_params : (s.setTxSeq v).params = s.params := rfl
@[simp] theorem State.setTxSeq_txState : (s.setTxSeq v).txState = s.txState := rfl
@[simp] theorem State.setTxSeq_txSeq : (s.setTxSeq v).txSeq = v := rfl
@[simp] theorem State.setTxSeq_retry : (s.setTxSeq v).retry = s.retry := rfl
@[simp] theorem State.setTxSeq_timer : (s.setTxSeq v).timer = s.timer := rfl
@[simp] theorem State.setTxSeq_txf : (s.setTxSeq v).txf = s.txf := rfl
@[simp] theorem State.setTxSeq_rxExp : (s.setTxSeq v).rxExp = s.rxExp := rfl
@[simp] theorem State.setTxSeq_rxLen : (s.setTxSeq v).rxLen = s.rxLen := rfl
@[simp] theorem State.setTxSeq_rxSeq : (s.setTxSeq v).rxSeq = s.rxSeq := rfl
@[simp] theorem State.setTxSeq_rxValid : (s.setTxSeq v).rxValid = s.rxValid := rfl
@[simp] theorem State.setTxSeq_msgLen : (s.setTxSeq v).msgLen = s.msgLen := rfl
@[simp] theorem State.setTxSeq_cfg : (s.setTxSeq v).cfg = s.cfg := rfl
@[simp] theorem State.setTxSeq_status : (s.setTxSeq v).status = s.status := rfl
@[simp] theorem State.setTxSeq_cond : (s.setTxSeq v).cond = s.cond := rfl
@[simp] theorem State.setTxSeq_stats : (s.setTxSeq v).stats = s.stats := rfl
@[simp] theorem State.setTxSeq_time : (s.setTxSeq v).time = s.time := rfl
@[simp] theorem State.setTxSeq_mem : (s.setTxSeq v).mem = s.mem := rfl
@[simp] theorem State.setTxSeq_restarted : (s.setTxSeq v).restarted = s.restarted := rfl
@[simp] theorem State.setTxSeq_out : (s.setTxSeq v).out = s.out := rfl
@[simp] theorem State.setTxSeq_epoch : (s.setTxSeq v).epoch = s.epoch := rfl
@[simp] theorem State.setTxSeq_chan : (s.setTxSeq v).chan = s.chan := rfl
@[simp] theorem State.setTxSeq_script : (s.setTxSeq v).script = s.script := rfl
end

section
variable (s : State) (v : Byte)
@[simp] theorem State.setRetry_params : (s.setRetry v).params = s.params := rfl
@[simp] theorem State.setRetry_txState : (s.setRetry v).txState = s.txState := rfl
@[simp] theorem State.setRetry_txSeq : (s.setRetry v).txSeq = s.txSeq := rfl
@[simp] theorem State.setRetry_retry : (s.setRetry v).retry = v := rfl
@[simp] theorem State.setRetry_timer : (s.setRetry v).timer = s.timer := rfl
@[simp] theorem State.setRetry_txf : (s.setRetry v).txf = s.txf := rfl
@[simp] theorem State.setRetry_rxExp : (s.setRetry v).rxExp = s.rxExp := rfl
@[simp] theorem State.setRetry_rxLen : (s.setRetry v).rxLen = s.rxLen := rfl
@[simp] theorem State.setRetry_rxSeq : (s.setRetry v).rxSeq = s.rxSeq := rfl
@[simp] theorem State.setRetry_rxValid : (s.setRetry v).rxValid = s.rxValid := rfl
@[simp] theorem State.setRetry_msgLen : (s.setRetry v).msgLen = s.msgLen := rfl
@[simp] theorem State.setRetry_cfg : (s.setRetry v).cfg = s.cfg := rfl
@[simp] theorem State.setRetry_status : (s.setRetry v).status = s.status := rfl
@[simp] theorem State.setRetry_cond : (s.setRetry v).cond = s.cond := rfl
@[simp] theorem State.setRetry_stats : (s.setRetry v).stats = s.stats := rfl
@[simp] theorem State.setRetry_time : (s.setRetry v).time = s.time := rfl
@[simp] theorem State.setRetry_mem : (s.setRetry v).mem = s.mem := rfl
@[simp] theorem State.setRetry_restarted : (s.setRetry v).restarted = s.restarted := rfl
@[simp] theorem State.setRetry_out : (s.setRetry v).out = s.out := rfl
@[simp] theorem State.setRetry_epoch : (s.setRetry v).epoch = s.epoch := rfl
@[simp] theorem State.setRetry_chan : (s.setRetry v).chan = s.chan := rfl
@[simp] theorem State.setRetry_script : (s.setRetry v).script = s.script := rfl
end

section
variable (s : State) (v : Word)
@[simp] theorem State.setTimer_params : (s.setTimer v).params = s.params := rfl
@[simp] theorem State.setTimer_txState : (s.setTimer v).txState = s.txState := rfl
@[simp] theorem State.setTimer_txSeq : (s.setTimer v).txSeq = s.txSeq := rfl
@[simp] theorem State.setTimer_retry : (s.setTimer v).retry = s.retry := rfl
@[simp] theorem State.setTimer_timer : (s.setTimer v).timer = v := rfl
@[simp] theorem State.setTimer_txf : (s.setTimer v).txf = s.txf := rfl
@[simp] theorem State.setTimer_rxExp : (s.setTimer v).rxExp = s.rxExp := rfl
@[simp] theorem State.setTimer_rxLen : (s.setTimer v).rxLen = s.rxLen := rfl
@[simp] theorem State.setTimer_rxSeq : (s.setTimer v).rxSeq = s.rxSeq := rfl
@[simp] theorem State.setTimer_rxValid : (s.setTimer v).rxValid = s.rxValid := rfl
@[simp] theorem State.setTimer_msgLen : (s.setTimer v).msgLen = s.msgLen := rfl
@[simp] theorem State.setTimer_cfg : (s.setTimer v).cfg = s.cfg := rfl
@[simp] theorem State.setTimer_status : (s.setTimer v).status = s.status := rfl
@[simp] theorem State.setTimer_cond : (s.setTimer v).cond = s.cond := rfl
@[simp] theorem State.setTimer_stats : (s.setTimer v).stats = s.stats := rfl
@[simp] theorem State.setTimer_time : (s.setTimer v).time = s.time := rfl
@[simp] theorem State.setTimer_mem : (s.setTimer v).mem = s.mem := rfl
@[simp] theorem State.setTimer_restarted : (s.setTimer v).restarted = s.restarted := rfl
@[simp] theorem State.setTimer_out : (s.setTimer v).out = s.out := rfl
@[simp] theorem State.setTimer_epoch : (s.setTimer v).epoch = s.epoch := rfl
@[simp] theorem State.setTimer_chan : (s.setTimer v).chan = s.chan := rfl
@[simp] theorem State.setTimer_script : (s.setTimer v).script = s.script := rfl
end

section
variable (s : State) (v : DataFrame)
@[simp] theorem State.setTxf_params : (s.setTxf v).params = s.params := rfl
@[simp] theorem State.setTxf_txState : (s.setTxf v).txState = s.txState := rfl
@[simp] theorem State.setTxf_txSeq : (s.setTxf v).txSeq = s.txSeq := rfl
@[simp] theorem State.setTxf_retry : (s.setTxf v).retry = s.retry := rfl
@[simp] theorem State.setTxf_timer : (s.setTxf v).timer = s.timer := rfl
@[simp] theorem State.setTxf_txf : (s.setTxf v).txf = v := rfl
@[simp] theorem State.setTxf_rxExp : (s.setTxf v).rxExp = s.rxExp := rfl
@[simp] theorem State.setTxf_rxLen : (s.setTxf v).rxLen = s.rxLen := rfl
@[simp] theorem State.setTxf_rxSeq : (s.setTxf v).rxSeq = s.rxSeq := rfl
@[simp] theorem State.setTxf_rxValid : (s.setTxf v).rxValid = s.rxValid := rfl
@[simp] theorem State.setTxf_msgLen : (s.setTxf v).msgLen = s.msgLen := rfl
@[simp] theorem State.setTxf_cfg : (s.setTxf v).cfg = s.cfg := rfl
@[simp] theorem State.setTxf_status : (s.setTxf v).status = s.status := rfl
@[simp] theorem State.setTxf_cond : (s.setTxf v).cond = s.cond := rfl
@[simp] theorem State.setTxf_stats : (s.setTxf v).stats = s.stats := rfl
@[simp] theorem State.setTxf_time : (s.setTxf v).time = s.time := rfl
@[simp] theorem State.setTxf_mem : (s.setTxf v).mem = s.mem := rfl
@[simp] theorem State.setTxf_restarted : (s.setTxf v).restarted = s.restarted := rfl
@[simp] theorem State.setTxf_out : (s.setTxf v).out = s.out := rfl
@[simp] theorem State.setTxf_epoch : (s.setTxf v).epoch = s.epoch := rfl
@[simp] theorem State.setTxf_chan : (s.setTxf v).chan = s.chan := rfl
@[simp] theorem State.setTxf_script : (s.setTxf v).script = s.script := rfl
end

section
variable (s : State) (v : Bit)
@[simp] theorem State.setRxExp_params : (s.setRxExp v).params = s.params := rfl
@[simp] theorem State.setRxExp_txState : (s.setRxExp v).txState = s.txState := rfl
@[simp] theorem State.setRxExp_txSeq : (s.setRxExp v).txSeq = s.txSeq := rfl
@[simp] theorem State.setRxExp_retry : (s.setRxExp v).retry = s.retry := rfl
@[simp] theorem State.setRxExp_timer : (s.setRxExp v).timer = s.timer := rfl
@[simp] theorem State.setRxExp_txf : (s.setRxExp v).txf = s.txf := rfl
@[simp] theorem State.setRxExp_rxExp : (s.setRxExp v).rxExp = v := rfl
@[simp] theorem State.setRxExp_rxLen : (s.setRxExp v).rxLen = s.rxLen := rfl
@[simp] theorem State.setRxExp_rxSeq : (s.setRxExp v).rxSeq = s.rxSeq := rfl
@[simp] theorem State.setRxExp_rxValid : (s.setRxExp v).rxValid = s.rxValid := rfl
@[simp] theorem State.setRxExp_msgLen : (s.setRxExp v).msgLen = s.msgLen := rfl
@[simp] theorem State.setRxExp_cfg : (s.setRxExp v).cfg = s.cfg := rfl
@[simp] theorem State.setRxExp_status : (s.setRxExp v).status = s.status := rfl
@[simp] theorem State.setRxExp_cond : (s.setRxExp v).cond = s.cond := rfl
@[simp] theorem State.setRxExp_stats : (s.setRxExp v).stats = s.stats := rfl
@[simp] theorem State.setRxExp_time : (s.setRxExp v).time = s.time := rfl
@[simp] theorem State.setRxExp_mem : (s.setRxExp v).mem = s.mem := rfl
@[simp] theorem State.setRxExp_restarted : (s.setRxExp v).restarted = s.restarted := rfl
@[simp] theorem State.setRxExp_out : (s.setRxExp v).out = s.out := rfl
@[simp] theorem State.setRxExp_epoch : (s.setRxExp v).epoch = s.epoch := rfl
@[simp] theorem State.setRxExp_chan : (s.setRxExp v).chan = s.chan := rfl
@[simp] theorem State.setRxExp_script : (s.setRxExp v).script = s.script := rfl
end

section
variable (s : State) (v : Half)
@[simp] theorem State.setRxLen_params : (s.setRxLen v).params = s.params := rfl
@[simp] theorem State.setRxLen_txState : (s.setRxLen v).txState = s.txState := rfl
@[simp] theorem State.setRxLen_txSeq : (s.setRxLen v).txSeq = s.txSeq := rfl
@[simp] theorem State.setRxLen_retry : (s.setRxLen v).retry = s.retry := rfl
@[simp] theorem State.setRxLen_timer : (s.setRxLen v).timer = s.timer := rfl
@[simp] theorem State.setRxLen_txf : (s.setRxLen v).txf = s.txf := rfl
@[simp] theorem State.setRxLen_rxExp : (s.setRxLen v).rxExp = s.rxExp := rfl
@[simp] theorem State.setRxLen_rxLen : (s.setRxLen v).rxLen = v := rfl
@[simp] theorem State.setRxLen_rxSeq : (s.setRxLen v).rxSeq = s.rxSeq := rfl
@[simp] theorem State.setRxLen_rxValid : (s.setRxLen v).rxValid = s.rxValid := rfl
@[simp] theorem State.setRxLen_msgLen : (s.setRxLen v).msgLen = s.msgLen := rfl
@[simp] theorem State.setRxLen_cfg : (s.setRxLen v).cfg = s.cfg := rfl
@[simp] theorem State.setRxLen_status : (s.setRxLen v).status = s.status := rfl
@[simp] theorem State.setRxLen_cond : (s.setRxLen v).cond = s.cond := rfl
@[simp] theorem State.setRxLen_stats : (s.setRxLen v).stats = s.stats := rfl
@[simp] theorem State.setRxLen_time : (s.setRxLen v).time = s.time := rfl
@[simp] theorem State.setRxLen_mem : (s.setRxLen v).mem = s.mem := rfl
@[simp] theorem State.setRxLen_restarted : (s.setRxLen v).restarted = s.restarted := rfl
@[simp] theorem State.setRxLen_out : (s.setRxLen v).out = s.out := rfl
@[simp] theorem State.setRxLen_epoch : (s.setRxLen v).epoch = s.epoch := rfl
@[simp] theorem State.setRxLen_chan : (s.setRxLen v).chan = s.chan := rfl
@[simp] theorem State.setRxLen_script : (s.setRxLen v).script = s.script := rfl
end

section
variable (s : State) (v : Bit)
@[simp] theorem State.setRxSeq_params : (s.setRxSeq v).params = s.params := rfl
@[simp] theorem State.setRxSeq_txState : (s.setRxSeq v).txState = s.txState := rfl
@[simp] theorem State.setRxSeq_txSeq : (s.setRxSeq v).txSeq = s.txSeq := rfl
@[simp] theorem State.setRxSeq_retry : (s.setRxSeq v).retry = s.retry := rfl
@[simp] theorem State.setRxSeq_timer : (s.setRxSeq v).timer = s.timer := rfl
@[simp] theorem State.setRxSeq_txf : (s.setRxSeq v).txf = s.txf := rfl
@[simp] theorem State.setRxSeq_rxExp : (s.setRxSeq v).rxExp = s.rxExp := rfl
@[simp] theorem State.setRxSeq_rxLen : (s.setRxSeq v).rxLen = s.rxLen := rfl
@[simp] theorem State.setRxSeq_rxSeq : (s.setRxSeq v).rxSeq = v := rfl
@[simp] theorem State.setRxSeq_rxValid : (s.setRxSeq v).rxValid = s.rxValid := rfl
@[simp] theorem State.setRxSeq_msgLen : (s.setRxSeq v).msgLen = s.msgLen := rfl
@[simp] theorem State.setRxSeq_cfg : (s.setRxSeq v).cfg = s.cfg := rfl
@[simp] theorem State.setRxSeq_status : (s.setRxSeq v).status = s.status := rfl
@[simp] theorem State.setRxSeq_cond : (s.setRxSeq v).cond = s.cond := rfl
@[simp] theorem State.setRxSeq_stats : (s.setRxSeq v).stats = s.stats := rfl
@[simp] theorem State.setRxSeq_time : (s.setRxSeq v).time = s.time := rfl
@[simp] theorem State.setRxSeq_mem : (s.setRxSeq v).mem = s.mem := rfl
@[simp] theorem State.setRxSeq_restarted : (s.setRxSeq v).restarted = s.restarted := rfl
@[simp] theorem State.setRxSeq_out : (s.setRxSeq v).out = s.out := rfl
@[simp] theorem State.setRxSeq_epoch : (s.setRxSeq v).epoch = s.epoch := rfl
@[simp] theorem State.setRxSeq_chan : (s.setRxSeq v).chan = s.chan := rfl
@[simp] theorem State.setRxSeq_script : (s.setRxSeq v).script = s.script := rfl
end

section
variable (s : State) (v : Bool)
@[simp] theorem State.setRxValid_params : (s.setRxValid v).params = s.params := rfl
@[simp] theorem State.setRxValid_txState : (s.setRxValid v).txState = s.txState := rfl
@[simp] theorem State.setRxValid_txSeq : (s.setRxValid v).txSeq = s.txSeq := rfl
@[simp] theorem State.setRxValid_retry : (s.setRxValid v).retry = s.retry := rfl
@[simp] theorem State.setRxValid_timer : (s.setRxValid v).timer = s.timer := rfl
@[simp] theorem State.setRxValid_txf : (s.setRxValid v).txf = s.txf := rfl
@[simp] theorem State.setRxValid_rxExp : (s.setRxValid v).rxExp = s.rxExp := rfl
@[simp] theorem State.setRxValid_rxLen : (s.setRxValid v).rxLen = s.rxLen := rfl
@[simp] theorem State.setRxValid_rxSeq : (s.setRxValid v).rxSeq = s.rxSeq := rfl
@[simp] theorem State.setRxValid_rxValid : (s.setRxValid v).rxValid = v := rfl
@[simp] theorem State.setRxValid_msgLen : (s.setRxValid v).msgLen = s.msgLen := rfl
@[simp] theorem State.setRxValid_cfg : (s.setRxValid v).cfg = s.cfg := rfl
@[simp] theorem State.setRxValid_status : (s.setRxValid v).status = s.status := rfl
@[simp] theorem State.setRxValid_cond : (s.setRxValid v).cond = s.cond := rfl
@[simp] theorem State.setRxValid_stats : (s.setRxValid v).stats = s.stats := rfl
@[simp] theorem State.setRxValid_time : (s.setRxValid v).time = s.time := rfl
@[simp] theorem State.setRxValid_mem : (s.setRxValid v).mem = s.mem := rfl
@[simp] theorem State.setRxValid_restarted : (s.setRxValid v).restarted = s.restarted := rfl
@[simp] theorem State.setRxValid_out : (s.setRxValid v).out = s.out := rfl
@[simp] theorem State.setRxValid_epoch : (s.setRxValid v).epoch = s.epoch := rfl
@[simp] theorem State.setRxValid_chan : (s.setRxValid v).chan = s.chan := rfl
@[simp] theorem State.setRxValid_script : (s.setRxValid v).script = s.script := rfl
end

section
variable (s : State) (v : Half)
@[simp] theorem State.setMsgLen_params : (s.setMsgLen v).params = s.params := rfl
@[simp] theorem State.setMsgLen_txState : (s.setMsgLen v).txState = s.txState := rfl
@[simp] theorem State.setMsgLen_txSeq : (s.setMsgLen v).txSeq = s.txSeq := rfl
@[simp] theorem State.setMsgLen_retry : (s.setMsgLen v).retry = s.retry := rfl
@[simp] theorem State.setMsgLen_timer : (s.setMsgLen v).timer = s.timer := rfl
@[simp] theorem State.setMsgLen_txf : (s.setMsgLen v).txf = s.txf := rfl
@[simp] theorem State.setMsgLen_rxExp : (s.setMsgLen v).rxExp = s.rxExp := rfl
@[simp] theorem State.setMsgLen_rxLen : (s.setMsgLen v).rxLen = s.rxLen := rfl
@[simp] theorem State.setMsgLen_rxSeq : (s.setMsgLen v).rxSeq = s.rxSeq := rfl
@[simp] theorem State.setMsgLen_rxValid : (s.setMsgLen v).rxValid = s.rxValid := rfl
@[simp] theorem State.setMsgLen_msgLen : (s.setMsgLen v).msgLen = v := rfl
@[simp] theorem State.setMsgLen_cfg : (s.setMsgLen v).cfg = s.cfg := rfl
@[simp] theorem State.setMsgLen_status : (s.setMsgLen v).status = s.status := rfl
@[simp] theorem State.setMsgLen_cond : (s.setMsgLen v).cond = s.cond := rfl
@[simp] theorem State.setMsgLen_stats : (s.setMsgLen v).stats = s.stats := rfl
@[simp] theorem State.setMsgLen_time : (s.setMsgLen v).time = s.time := rfl
@[simp] theorem State.setMsgLen_mem : (s.setMsgLen v).mem = s.mem := rfl
@[simp] theorem State.setMsgLen_restarted : (s.setMsgLen v).restarted = s.restarted := rfl
@[simp] theorem State.setMsgLen_out : (s.setMsgLen v).out = s.out := rfl
@[simp] theorem State.setMsgLen_epoch : (s.setMsgLen v).epoch = s.epoch := rfl
@[simp] theorem State.setMsgLen_chan : (s.setMsgLen v).chan = s.chan := rfl
@[simp] theorem State.setMsgLen_script : (s.setMsgLen v).script = s.script := rfl
end

section
variable (s : State) (v : Cfg)
@[simp] theorem State.setCfg_params : (s.setCfg v).params = s.params := rfl
@[simp] theorem State.setCfg_txState : (s.setCfg v).txState = s.txState := rfl
@[simp] theorem State.setCfg_txSeq : (s.setCfg v).txSeq = s.txSeq := rfl
@[simp] theorem State.setCfg_retry : (s.setCfg v).retry = s.retry := rfl
@[simp] theorem State.setCfg_timer : (s.setCfg v).timer = s.timer := rfl
@[simp] theorem State.setCfg_txf : (s.setCfg v).txf = s.txf := rfl
@[simp] theorem State.setCfg_rxExp : (s.setCfg v).rxExp = s.rxExp := rfl
@[simp] theorem State.setCfg_rxLen : (s.setCfg v).rxLen = s.rxLen := rfl
@[simp] theorem State.setCfg_rxSeq : (s.setCfg v).rxSeq = s.rxSeq := rfl
@[simp] theorem State.setCfg_rxValid : (s.setCfg v).rxValid = s.rxValid := rfl
@[simp] theorem State.setCfg_msgLen : (s.setCfg v).msgLen = s.msgLen := rfl
@[simp] theorem State.setCfg_cfg : (s.setCfg v).cfg = v := rfl
@[simp] theorem State.setCfg_status : (s.setCfg v).status = s.status := rfl
@[simp] theorem State.setCfg_cond : (s.setCfg v).cond = s.cond := rfl
@[simp] theorem State.setCfg_stats : (s.setCfg v).stats = s.stats := rfl
@[simp] theorem State.setCfg_time : (s.setCfg v).time = s.time := rfl
@[simp] theorem State.setCfg_mem : (s.setCfg v).mem = s.mem := rfl
@[simp] theorem State.setCfg_restarted : (s.setCfg v).restarted = s.restarted := rfl
@[simp] theorem State.setCfg_out : (s.setCfg v).out = s.out := rfl
@[simp] theorem State.setCfg_epoch : (s.setCfg v).epoch = s.epoch := rfl
@[simp] theorem State.setCfg_chan : (s.setCfg v).chan = s.chan := rfl
@[simp] theorem State.setCfg_script : (s.setCfg v).script = s.script := rfl
end

section
variable (s : State) (v : Status)
@[simp] theorem State.setStatus_params : (s.setStatus v).params = s.params := rfl
@[simp] theorem State.setStatus_txState : (s.setStatus v).txState = s.txState := rfl
@[simp] theorem State.setStatus_txSeq : (s.setStatus v).txSeq = s.txSeq := rfl
@[simp] theorem State.setStatus_retry : (s.setStatus v).retry = s.retry := rfl
@[simp] theorem State.setStatus_timer : (s.setStatus v).timer = s.timer := rfl
@[simp] theorem State.setStatus_txf : (s.setStatus v).txf = s.txf := rfl
@[simp] theorem State.setStatus_rxExp : (s.setStatus v).rxExp = s.rxExp := rfl
@[simp] theorem State.setStatus_rxLen : (s.setStatus v).rxLen = s.rxLen := rfl
@[simp] theorem State.setStatus_rxSeq : (s.setStatus v).rxSeq = s.rxSeq := rfl
@[simp] theorem State.setStatus_rxValid : (s.setStatus v).rxValid = s.rxValid := rfl
@[simp] theorem State.setStatus_msgLen : (s.setStatus v).msgLen = s.msgLen := rfl
@[simp] theorem State.setStatus_cfg : (s.setStatus v).cfg = s.cfg := rfl
@[simp] theorem State.setStatus_status : (s.setStatus v).status = v := rfl
@[simp] theorem State.setStatus_cond : (s.setStatus v).cond = s.cond := rfl
@[simp] theorem State.setStatus_stats : (s.setStatus v).stats = s.stats := rfl
@[simp] theorem State.setStatus_time : (s.setStatus v).time = s.time := rfl
@[simp] theorem State.setStatus_mem : (s.setStatus v).mem = s.mem := rfl
@[simp] theorem State.setStatus_restarted : (s.setStatus v).restarted = s.restarted := rfl
@[simp] theorem State.setStatus_out : (s.setStatus v).out = s.out := rfl
@[simp] theorem State.setStatus_epoch : (s.setStatus v).epoch = s.epoch := rfl
@[simp] theorem State.setStatus_chan : (s.setStatus v).chan = s.chan := rfl
@[simp] theorem State.setStatus_script : (s.setStatus v).script = s.script := rfl
end

section
variable (s : State) (v : BitVec 4)
@[simp] theorem State.setCond_params : (s.setCond v).params = s.params := rfl
@[simp] theorem State.setCond_txState : (s.setCond v).txState = s.txState := rfl
@[simp] theorem State.setCond_txSeq : (s.setCond v).txSeq = s.txSeq := rfl
@[simp] theorem State.setCond_retry : (s.setCond v).retry = s.retry := rfl
@[simp] theorem State.setCond_timer : (s.setCond v).timer = s.timer := rfl
@[simp] theorem State.setCond_txf : (s.setCond v).txf = s.txf := rfl
@[simp] theorem State.setCond_rxExp : (s.setCond v).rxExp = s.rxExp := rfl
@[simp] theorem State.setCond_rxLen : (s.setCond v).rxLen = s.rxLen := rfl
@[simp] theorem State.setCond_rxSeq : (s.setCond v).rxSeq = s.rxSeq := rfl
@[simp] theorem State.setCond_rxValid : (s.setCond v).rxValid = s.rxValid := rfl
@[simp] theorem State.setCond_msgLen : (s.setCond v).msgLen = s.msgLen := rfl
@[simp] theorem State.setCond_cfg : (s.setCond v).cfg = s.cfg := rfl
@[simp] theorem State.setCond_status : (s.setCond v).status = s.status := rfl
@[simp] theorem State.setCond_cond : (s.setCond v).cond = v := rfl
@[simp] theorem State.setCond_stats : (s.setCond v).stats = s.stats := rfl
@[simp] theorem State.setCond_time : (s.setCond v).time = s.time := rfl
@[simp] theorem State.setCond_mem : (s.setCond v).mem = s.mem := rfl
@[simp] theorem State.setCond_restarted : (s.setCond v).restarted = s.restarted := rfl
@[simp] theorem State.setCond_out : (s.setCond v).out = s.out := rfl
@[simp] theorem State.setCond_epoch : (s.setCond v).epoch = s.epoch := rfl
@[simp] theorem State.setCond_chan : (s.setCond v).chan = s.chan := rfl
@[simp] theorem State.setCond_script : (s.setCond v).script = s.script := rfl
end

section
variable (s : State) (v : Stats)
@[simp] theorem State.setStats_params : (s.setStats v).params = s.params := rfl
@[simp] theorem State.setStats_txState : (s.setStats v).txState = s.txState := rfl
@[simp] theorem State.setStats_txSeq : (s.setStats v).txSeq = s.txSeq := rfl
@[simp] theorem State.setStats_retry : (s.setStats v).retry = s.retry := rfl
@[simp] theorem State.setStats_timer : (s.setStats v).timer = s.timer := rfl
@[simp] theorem State.setStats_txf : (s.setStats v).txf = s.txf := rfl
@[simp] theorem State.setStats_rxExp : (s.setStats v).rxExp = s.rxExp := rfl
@[simp] theorem State.setStats_rxLen : (s.setStats v).rxLen = s.rxLen := rfl
@[simp] theorem State.setStats_rxSeq : (s.setStats v).rxSeq = s.rxSeq := rfl
@[simp] theorem State.setStats_rxValid : (s.setStats v).rxValid = s.rxValid := rfl
@[simp] theorem State.setStats_msgLen : (s.setStats v).msgLen = s.msgLen := rfl
@[simp] theorem State.setStats_cfg : (s.setStats v).cfg = s.cfg := rfl
@[simp] theorem State.setStats_status : (s.setStats v).status = s.status := rfl
@[simp] theorem State.setStats_cond : (s.setStats v).cond = s.cond := rfl
@[simp] theorem State.setStats_stats : (s.setStats v).stats = v := rfl
@[simp] theorem State.setStats_time : (s.setStats v).time = s.time := rfl
@[simp] theorem State.setStats_mem : (s.setStats v).mem = s.mem := rfl
@[simp] theorem State.setStats_restarted : (s.setStats v).restarted = s.restarted := rfl
@[simp] theorem State.setStats_out : (s.setStats v).out = s.out := rfl
@[simp] theorem State.setStats_epoch : (s.setStats v).epoch = s.epoch := rfl
@[simp] theorem State.setStats_chan : (s.setStats v).chan = s.chan := rfl
@[simp] theorem State.setStats_script : (s.setStats v).script = s.script := rfl
end

section
variable (s : State) (v : Word)
@[simp] theorem State.setTime_params : (s.setTime v).params = s.params := rfl
@[simp] theorem State.setTime_txState : (s.setTime v).txState = s.txState := rfl
@[simp] theorem State.setTime_txSeq : (s.setTime v).txSeq = s.txSeq := rfl
@[simp] theorem State.setTime_retry : (s.setTime v).retry = s.retry := rfl
@[simp] theorem State.setTime_timer : (s.setTime v).timer = s.timer := rfl
@[simp] theorem State.setTime_txf : (s.setTime v).txf = s.txf := rfl
@[simp] theorem State.setTime_rxExp : (s.setTime v).rxExp = s.rxExp := rfl
@[simp] theorem State.setTime_rxLen : (s.setTime v).rxLen = s.rxLen := rfl
@[simp] theorem State.setTime_rxSeq : (s.setTime v).rxSeq = s.rxSeq := rfl
@[simp] theorem State.setTime_rxValid : (s.setTime v).rxValid = s.rxValid := rfl
@[simp] theorem State.setTime_msgLen : (s.setTime v).msgLen = s.msgLen := rfl
@[simp] theorem State.setTime_cfg : (s.setTime v).cfg = s.cfg := rfl
@[simp] theorem State.setTime_status : (s.setTime v).status = s.status := rfl
@[simp] theorem State.setTime_cond : (s.setTime v).cond = s.cond := rfl
@[simp] theorem State.setTime_stats : (s.setTime v).stats = s.stats := rfl
@[simp] theorem State.setTime_time : (s.setTime v).time = v := rfl
@[simp] theorem State.setTime_mem : (s.setTime v).mem = s.mem := rfl
@[simp] theorem State.setTime_restarted : (s.setTime v).restarted = s.restarted := rfl
@[simp] theorem State.setTime_out : (s.setTime v).out = s.out := rfl
@[simp] theorem State.setTime_epoch : (s.setTime v).epoch = s.epoch := rfl
@[simp] theorem State.setTime_chan : (s.setTime v).chan = s.chan := rfl
@[simp] theorem State.setTime_script : (s.setTime v).script = s.script := rfl
end

section
variable (s : State) (v : Memory)
@[simp] theorem State.setMem_params : (s.setMem v).params = s.params := rfl
@[simp] theorem State.setMem_txState : (s.setMem v).txState = s.txState := rfl
@[simp] theorem State.setMem_txSeq : (s.setMem v).txSeq = s.txSeq := rfl
@[simp] theorem State.setMem_retry : (s.setMem v).retry = s.retry := rfl
@[simp] theorem State.setMem_timer : (s.setMem v).timer = s.timer := rfl
@[simp] theorem State.setMem_txf : (s.setMem v).txf = s.txf := rfl
@[simp] theorem State.setMem_rxExp : (s.setMem v).rxExp = s.rxExp := rfl
@[simp] theorem State.setMem_rxLen : (s.setMem v).rxLen = s.rxLen := rfl
@[simp] theorem State.setMem_rxSeq : (s.setMem v).rxSeq = s.rxSeq := rfl
@[simp] theorem State.setMem_rxValid : (s.setMem v).rxValid = s.rxValid := rfl
@[simp] theorem State.setMem_msgLen : (s.setMem v).msgLen = s.msgLen := rfl
@[simp] theorem State.setMem_cfg : (s.setMem v).cfg = s.cfg := rfl
@[simp] theorem State.setMem_status : (s.setMem v).status = s.status := rfl
@[simp] theorem State.setMem_cond : (s.setMem v).cond = s.cond := rfl
@[simp] theorem State.setMem_stats : (s.setMem v).stats = s.stats := rfl
@[simp] theorem State.setMem_time : (s.setMem v).time = s.time := rfl
@[simp] theorem State.setMem_mem : (s.setMem v).mem = v := rfl
@[simp] theorem State.setMem_restarted : (s.setMem v).restarted = s.restarted := rfl
@[simp] theorem State.setMem_out : (s.setMem v).out = s.out := rfl
@[simp] theorem State.setMem_epoch : (s.setMem v).epoch = s.epoch := rfl
@[simp] theorem State.setMem_chan : (s.setMem v).chan = s.chan := rfl
@[simp] theorem State.setMem_script : (s.setMem v).script = s.script := rfl
end

section
variable (s : State) (v : Bool)
@[simp] theorem State.setRestarted_params : (s.setRestarted v).params = s.params := rfl
@[simp] theorem State.setRestarted_txState : (s.setRestarted v).txState = s.txState := rfl
@[simp] theorem State.setRestarted_txSeq : (s.setRestarted v).txSeq = s.txSeq := rfl
@[simp] theorem State.setRestarted_retry : (s.setRestarted v).retry = s.retry := rfl
@[simp] theorem State.setRestarted_timer : (s.setRestarted v).timer = s.timer := rfl
@[simp] theorem State.setRestarted_txf : (s.setRestarted v).txf = s.txf := rfl
@[simp] theorem State.setRestarted_rxExp : (s.setRestarted v).rxExp = s.rxExp := rfl
@[simp] theorem State.setRestarted_rxLen : (s.setRestarted v).rxLen = s.rxLen := rfl
@[simp] theorem State.setRestarted_rxSeq : (s.setRestarted v).rxSeq = s.rxSeq := rfl
@[simp] theorem State.setRestarted_rxValid : (s.setRestarted v).rxValid = s.rxValid := rfl
@[simp] theorem State.setRestarted_msgLen : (s.setRestarted v).msgLen = s.msgLen := rfl
@[simp] theorem State.setRestarted_cfg : (s.setRestarted v).cfg = s.cfg := rfl
@[simp] theorem State.setRestarted_status : (s.setRestarted v).status = s.status := rfl
@[simp] theorem State.setRestarted_cond : (s.setRestarted v).cond = s.cond := rfl
@[simp] theorem State.setRestarted_stats : (s.setRestarted v).stats = s.stats := rfl
@[simp] theorem State.setRestarted_time : (s.setRestarted v).time = s.time := rfl
@[simp] theorem State.setRestarted_mem : (s.setRestarted v).mem = s.mem := rfl
@[simp] theorem State.setRestarted_restarted : (s.setRestarted v).restarted = v := rfl
@[simp] theorem State.setRestarted_out : (s.setRestarted v).out = s.out := rfl
@[simp] theorem State.setRestarted_epoch : (s.setRestarted v).epoch = s.epoch := rfl
@[simp] theorem State.setRestarted_chan : (s.setRestarted v).chan = s.chan := rfl
@[simp] theorem State.setRestarted_script : (s.setRestarted v).script = s.script := rfl
end

section
variable (s : State) (v : Outputs)
@[simp] theorem State.setOut_params : (s.setOut v).params = s.params := rfl
@[simp] theorem State.setOut_txState : (s.setOut v).txState = s.txState := rfl
@[simp] theorem State.setOut_txSeq : (s.setOut v).txSeq = s.txSeq := rfl
@[simp] theorem State.setOut_retry : (s.setOut v).retry = s.retry := rfl
@[simp] theorem State.setOut_timer : (s.setOut v).timer = s.timer := rfl
@[simp] theorem State.setOut_txf : (s.setOut v).txf = s.txf := rfl
@[simp] theorem State.setOut_rxExp : (s.setOut v).rxExp = s.rxExp := rfl
@[simp] theorem State.setOut_rxLen : (s.setOut v).rxLen = s.rxLen := rfl
@[simp] theorem State.setOut_rxSeq : (s.setOut v).rxSeq = s.rxSeq := rfl
@[simp] theorem State.setOut_rxValid : (s.setOut v).rxValid = s.rxValid := rfl
@[simp] theorem State.setOut_msgLen : (s.setOut v).msgLen = s.msgLen := rfl
@[simp] theorem State.setOut_cfg : (s.setOut v).cfg = s.cfg := rfl
@[simp] theorem State.setOut_status : (s.setOut v).status = s.status := rfl
@[simp] theorem State.setOut_cond : (s.setOut v).cond = s.cond := rfl
@[simp] theorem State.setOut_stats : (s.setOut v).stats = s.stats := rfl
@[simp] theorem State.setOut_time : (s.setOut v).time = s.time := rfl
@[simp] theorem State.setOut_mem : (s.setOut v).mem = s.mem := rfl
@[simp] theorem State.setOut_restarted : (s.setOut v).restarted = s.restarted := rfl
@[simp] theorem State.setOut_out : (s.setOut v).out = v := rfl
@[simp] theorem State.setOut_epoch : (s.setOut v).epoch = s.epoch := rfl
@[simp] theorem State.setOut_chan : (s.setOut v).chan = s.chan := rfl
@[simp] theorem State.setOut_script : (s.setOut v).script = s.script := rfl
end

section
variable (s : State) (v : Channel)
@[simp] theorem State.setChan_params : (s.setChan v).params = s.params := rfl
@[simp] theorem State.setChan_txState : (s.setChan v).txState = s.txState := rfl
@[simp] theorem State.setChan_txSeq : (s.setChan v).txSeq = s.txSeq := rfl
@[simp] theorem State.setChan_retry : (s.setChan v).retry = s.retry := rfl
@[simp] theorem State.setChan_timer : (s.setChan v).timer = s.timer := rfl
@[simp] theorem State.setChan_txf : (s.setChan v).txf = s.txf := rfl
@[simp] theorem State.setChan_rxExp : (s.setChan v).rxExp = s.rxExp := rfl
@[simp] theorem State.setChan_rxLen : (s.setChan v).rxLen = s.rxLen := rfl
@[simp] theorem State.setChan_rxSeq : (s.setChan v).rxSeq = s.rxSeq := rfl
@[simp] theorem State.setChan_rxValid : (s.setChan v).rxValid = s.rxValid := rfl
@[simp] theorem State.setChan_msgLen : (s.setChan v).msgLen = s.msgLen := rfl
@[simp] theorem State.setChan_cfg : (s.setChan v).cfg = s.cfg := rfl
@[simp] theorem State.setChan_status : (s.setChan v).status = s.status := rfl
@[simp] theorem State.setChan_cond : (s.setChan v).cond = s.cond := rfl
@[simp] theorem State.setChan_stats : (s.setChan v).stats = s.stats := rfl
@[simp] theorem State.setChan_time : (s.setChan v).time = s.time := rfl
@[simp] theorem State.setChan_mem : (s.setChan v).mem = s.mem := rfl
@[simp] theorem State.setChan_restarted : (s.setChan v).restarted = s.restarted := rfl
@[simp] theorem State.setChan_out : (s.setChan v).out = s.out := rfl
@[simp] theorem State.setChan_epoch : (s.setChan v).epoch = s.epoch := rfl
@[simp] theorem State.setChan_chan : (s.setChan v).chan = v := rfl
@[simp] theorem State.setChan_script : (s.setChan v).script = s.script := rfl
end

section
variable (s : State) (v : List Stimulus)
@[simp] theorem State.setScript_params : (s.setScript v).params = s.params := rfl
@[simp] theorem State.setScript_txState : (s.setScript v).txState = s.txState := rfl
@[simp] theorem State.setScript_txSeq : (s.setScript v).txSeq = s.txSeq := rfl
@[simp] theorem State.setScript_retry : (s.setScript v).retry = s.retry := rfl
@[simp] theorem State.setScript_timer : (s.setScript v).timer = s.timer := rfl
@[simp] theorem State.setScript_txf : (s.setScript v).txf = s.txf := rfl
@[simp] theorem State.setScript_rxExp : (s.setScript v).rxExp = s.rxExp := rfl
@[simp] theorem State.setScript_rxLen : (s.setScript v).rxLen = s.rxLen := rfl
@[simp] theorem State.setScript_rxSeq : (s.setScript v).rxSeq = s.rxSeq := rfl
@[simp] theorem State.setScript_rxValid : (s.setScript v).rxValid = s.rxValid := rfl
@[simp] theorem State.setScript_msgLen : (s.setScript v).msgLen = s.msgLen := rfl
@[simp] theorem State.setScript_cfg : (s.setScript v).cfg = s.cfg := rfl
@[simp] theorem State.setScript_status : (s.setScript v).status = s.status := rfl
@[simp] theorem State.setScript_cond : (s.setScript v).cond = s.cond := rfl
@[simp] theorem State.setScript_stats : (s.setScript v).stats = s.stats := rfl
@[simp] theorem State.setScript_time : (s.setScript v).time = s.time := rfl
@[simp] theorem State.setScript_mem : (s.setScript v).mem = s.mem := rfl
@[simp] theorem State.setScript_restarted : (s.setScript v).restarted = s.restarted := rfl
@[simp] theorem State.setScript_out : (s.setScript v).out = s.out := rfl
@[simp] theorem State.setScript_epoch : (s.setScript v).epoch = s.epoch := rfl
@[simp] theorem State.setScript_chan : (s.setScript v).chan = s.chan := rfl
@[simp] theorem State.setScript_script : (s.setScript v).script = v := rfl
end

end Sys2Proof.Machine
end

