-- ==== Sys2Proof/Laws/Memory.lean ====
section
/-! SUPPORT. The memory cells: read after write, the canonical form, and that equal reads are equal lists. -/

namespace Sys2Proof.Machine

theorem Memory.read?_write_same (m : Memory) (a : Nat) (b : Byte) :
    Memory.read? (Memory.write m a b) a = some b := by
  induction m with
  | nil => simp [Memory.write, Memory.read?]
  | cons c m ih =>
    obtain ⟨x, v⟩ := c
    by_cases h : a < x
    · simp [Memory.write, Memory.read?, h]
    · by_cases h' : a = x
      · simp [Memory.write, Memory.read?, h']
      · simp [Memory.write, Memory.read?, h, h', Ne.symm h', ih]

theorem Memory.read?_write_other (m : Memory) {a a' : Nat} (b : Byte) (h : a' ≠ a) :
    Memory.read? (Memory.write m a b) a' = Memory.read? m a' := by
  induction m with
  | nil => simp [Memory.write, Memory.read?, h.symm]
  | cons c m ih =>
    obtain ⟨x, v⟩ := c
    by_cases hlt : a < x
    · simp [Memory.write, Memory.read?, hlt, h.symm]
    · by_cases heq : a = x
      · subst heq
        simp [Memory.write, Memory.read?, h.symm]
      · simp [Memory.write, Memory.read?, hlt, heq, ih]

theorem Memory.risesFrom_mono {m : Memory} {low low' : Nat} (h : Memory.risesFrom low m = true)
    (hle : low' ≤ low) : Memory.risesFrom low' m = true := by
  cases m with
  | nil => rfl
  | cons c m =>
    obtain ⟨x, v⟩ := c
    simp only [Memory.risesFrom, Bool.and_eq_true, decide_eq_true_eq] at h ⊢
    exact ⟨by omega, h.2⟩

theorem Memory.risesFrom_write {m : Memory} {low a : Nat} (b : Byte) (h : Memory.risesFrom low m = true)
    (ha : low ≤ a) : Memory.risesFrom low (Memory.write m a b) = true := by
  induction m generalizing low with
  | nil => simp [Memory.write, Memory.risesFrom, ha]
  | cons c m ih =>
    obtain ⟨x, v⟩ := c
    simp only [Memory.risesFrom, Bool.and_eq_true, decide_eq_true_eq] at h
    by_cases hlt : a < x
    · simp only [Memory.write, hlt, if_true, Memory.risesFrom, Bool.and_eq_true, decide_eq_true_eq]
      exact ⟨ha, by omega, h.2⟩
    · by_cases heq : a = x
      · subst heq
        simp [Memory.write, Memory.risesFrom, h.2, ha]
      · simp only [Memory.write, hlt, heq, if_false, Memory.risesFrom, Bool.and_eq_true, decide_eq_true_eq]
        exact ⟨h.1, ih h.2 (by omega)⟩

/-- A write keeps the canonical form. -/
theorem Memory.wf_write {m : Memory} (a : Nat) (b : Byte) (h : Memory.wf m = true) :
    Memory.wf (Memory.write m a b) = true :=
  Memory.risesFrom_write b h (Nat.zero_le a)

theorem Memory.read?_below {m : Memory} {low a : Nat} (h : Memory.risesFrom low m = true) (ha : a < low) :
    Memory.read? m a = none := by
  induction m generalizing low with
  | nil => rfl
  | cons c m ih =>
    obtain ⟨x, v⟩ := c
    simp only [Memory.risesFrom, Bool.and_eq_true, decide_eq_true_eq] at h
    have hne : x ≠ a := by omega
    simp only [Memory.read?, hne, if_false]
    exact ih h.2 (by omega)

theorem Memory.ext_of_risesFrom {m n : Memory} {low : Nat} (hm : Memory.risesFrom low m = true)
    (hn : Memory.risesFrom low n = true) (h : ∀ a, Memory.read? m a = Memory.read? n a) : m = n := by
  induction m generalizing n low with
  | nil =>
    cases n with
    | nil => rfl
    | cons c n => obtain ⟨y, w⟩ := c; have := h y; simp [Memory.read?] at this
  | cons c m ih =>
    obtain ⟨x, v⟩ := c
    cases n with
    | nil => have := h x; simp [Memory.read?] at this
    | cons d n =>
      obtain ⟨y, w⟩ := d
      simp only [Memory.risesFrom, Bool.and_eq_true, decide_eq_true_eq] at hm hn
      have hxy : x = y := by
        rcases Nat.lt_trichotomy x y with hlt | heq | hlt
        · have := h x
          rw [Memory.read?, if_pos rfl, Memory.read?, if_neg (by omega),
            Memory.read?_below hn.2 (by omega)] at this
          exact absurd this (by simp)
        · exact heq
        · have := h y
          rw [Memory.read?, if_neg (by omega), Memory.read?_below hm.2 (by omega), Memory.read?,
            if_pos rfl] at this
          exact absurd this (by simp)
      subst hxy
      have hv : v = w := by simpa [Memory.read?] using h x
      subst hv
      congr 1
      refine ih hm.2 hn.2 fun a => ?_
      by_cases hax : x = a
      · subst hax
        rw [Memory.read?_below hm.2 (by omega), Memory.read?_below hn.2 (by omega)]
      · simpa [Memory.read?, hax] using h a

/-- In canonical form, memories that read the same are the same list. -/
theorem Memory.ext {m n : Memory} (hm : Memory.wf m = true) (hn : Memory.wf n = true)
    (h : ∀ a, Memory.read? m a = Memory.read? n a) : m = n :=
  Memory.ext_of_risesFrom hm hn h

/-- A property of addresses that the written address has is kept by a write. -/
theorem Memory.all_write (p : Nat → Bool) {m : Memory} {a : Nat} (b : Byte)
    (h : (m.all fun c => p c.1) = true) (ha : p a = true) :
    ((Memory.write m a b).all fun c => p c.1) = true := by
  induction m with
  | nil => simp [Memory.write, ha]
  | cons c m ih =>
    obtain ⟨x, v⟩ := c
    simp only [List.all_cons, Bool.and_eq_true] at h
    by_cases hlt : a < x
    · simp [Memory.write, hlt, ha, h.1, h.2]
    · by_cases heq : a = x
      · simp [Memory.write, heq, h.1, h.2]
      · simp [Memory.write, hlt, heq, h.1, ih h.2]

end Sys2Proof.Machine
end

