-- ==== Sys2Proof/Laws/Buffer.lean ====
section
/-! SUPPORT. The payload buffers: what a byte write and a MemWrite change, and that they change `mem` only. -/

namespace Sys2Proof.Machine

/-- A byte write changes `mem` only. -/
theorem State.setBufByte_eq_setMem (s : State) (b : Buffer) (k : Nat) (v : Byte) :
    ∃ m, s.setBufByte b k v = s.setMem m := by
  unfold State.setBufByte
  split
  · exact ⟨_, rfl⟩
  · exact ⟨s.mem, rfl⟩

/-- MemWrite changes `mem` only. -/
theorem State.memWrite_eq_setMem (s : State) (b : Buffer) (k : Nat) (bs : List Byte) :
    s.memWrite b k bs = s.setMem (s.memWrite b k bs).mem := by
  induction bs generalizing s k with
  | nil => rfl
  | cons v vs ih =>
    obtain ⟨m, hm⟩ := s.setBufByte_eq_setMem b k v
    have := ih (s.setBufByte b k v) (k + 1)
    simp only [State.memWrite] at this ⊢
    rw [this, hm]
    rfl

section
variable (s : State) (b : Buffer) (k : Nat) (v : Byte) (bs : List Byte)
@[simp] theorem State.setBufByte_params : (s.setBufByte b k v).params = s.params := by
  obtain ⟨m, h⟩ := s.setBufByte_eq_setMem b k v
  rw [h]; rfl
@[simp] theorem State.setBufByte_txState : (s.setBufByte b k v).txState = s.txState := by
  obtain ⟨m, h⟩ := s.setBufByte_eq_setMem b k v
  rw [h]; rfl
@[simp] theorem State.setBufByte_txSeq : (s.setBufByte b k v).txSeq = s.txSeq := by
  obtain ⟨m, h⟩ := s.setBufByte_eq_setMem b k v
  rw [h]; rfl
@[simp] theorem State.setBufByte_retry : (s.setBufByte b k v).retry = s.retry := by
  obtain ⟨m, h⟩ := s.setBufByte_eq_setMem b k v
  rw [h]; rfl
@[simp] theorem State.setBufByte_timer : (s.setBufByte b k v).timer = s.timer := by
  obtain ⟨m, h⟩ := s.setBufByte_eq_setMem b k v
  rw [h]; rfl
@[simp] theorem State.setBufByte_txf : (s.setBufByte b k v).txf = s.txf := by
  obtain ⟨m, h⟩ := s.setBufByte_eq_setMem b k v
  rw [h]; rfl
@[simp] theorem State.setBufByte_rxExp : (s.setBufByte b k v).rxExp = s.rxExp := by
  obtain ⟨m, h⟩ := s.setBufByte_eq_setMem b k v
  rw [h]; rfl
@[simp] theorem State.setBufByte_rxLen : (s.setBufByte b k v).rxLen = s.rxLen := by
  obtain ⟨m, h⟩ := s.setBufByte_eq_setMem b k v
  rw [h]; rfl
@[simp] theorem State.setBufByte_rxSeq : (s.setBufByte b k v).rxSeq = s.rxSeq := by
  obtain ⟨m, h⟩ := s.setBufByte_eq_setMem b k v
  rw [h]; rfl
@[simp] theorem State.setBufByte_rxValid : (s.setBufByte b k v).rxValid = s.rxValid := by
  obtain ⟨m, h⟩ := s.setBufByte_eq_setMem b k v
  rw [h]; rfl
@[simp] theorem State.setBufByte_msgLen : (s.setBufByte b k v).msgLen = s.msgLen := by
  obtain ⟨m, h⟩ := s.setBufByte_eq_setMem b k v
  rw [h]; rfl
@[simp] theorem State.setBufByte_cfg : (s.setBufByte b k v).cfg = s.cfg := by
  obtain ⟨m, h⟩ := s.setBufByte_eq_setMem b k v
  rw [h]; rfl
@[simp] theorem State.setBufByte_status : (s.setBufByte b k v).status = s.status := by
  obtain ⟨m, h⟩ := s.setBufByte_eq_setMem b k v
  rw [h]; rfl
@[simp] theorem State.setBufByte_cond : (s.setBufByte b k v).cond = s.cond := by
  obtain ⟨m, h⟩ := s.setBufByte_eq_setMem b k v
  rw [h]; rfl
@[simp] theorem State.setBufByte_stats : (s.setBufByte b k v).stats = s.stats := by
  obtain ⟨m, h⟩ := s.setBufByte_eq_setMem b k v
  rw [h]; rfl
@[simp] theorem State.setBufByte_time : (s.setBufByte b k v).time = s.time := by
  obtain ⟨m, h⟩ := s.setBufByte_eq_setMem b k v
  rw [h]; rfl
@[simp] theorem State.setBufByte_restarted : (s.setBufByte b k v).restarted = s.restarted := by
  obtain ⟨m, h⟩ := s.setBufByte_eq_setMem b k v
  rw [h]; rfl
@[simp] theorem State.setBufByte_out : (s.setBufByte b k v).out = s.out := by
  obtain ⟨m, h⟩ := s.setBufByte_eq_setMem b k v
  rw [h]; rfl
@[simp] theorem State.setBufByte_epoch : (s.setBufByte b k v).epoch = s.epoch := by
  obtain ⟨m, h⟩ := s.setBufByte_eq_setMem b k v
  rw [h]; rfl
@[simp] theorem State.setBufByte_chan : (s.setBufByte b k v).chan = s.chan := by
  obtain ⟨m, h⟩ := s.setBufByte_eq_setMem b k v
  rw [h]; rfl
@[simp] theorem State.setBufByte_script : (s.setBufByte b k v).script = s.script := by
  obtain ⟨m, h⟩ := s.setBufByte_eq_setMem b k v
  rw [h]; rfl
@[simp] theorem State.memWrite_params : (s.memWrite b k bs).params = s.params := by
  rw [s.memWrite_eq_setMem]; rfl
@[simp] theorem State.memWrite_txState : (s.memWrite b k bs).txState = s.txState := by
  rw [s.memWrite_eq_setMem]; rfl
@[simp] theorem State.memWrite_txSeq : (s.memWrite b k bs).txSeq = s.txSeq := by
  rw [s.memWrite_eq_setMem]; rfl
@[simp] theorem State.memWrite_retry : (s.memWrite b k bs).retry = s.retry := by
  rw [s.memWrite_eq_setMem]; rfl
@[simp] theorem State.memWrite_timer : (s.memWrite b k bs).timer = s.timer := by
  rw [s.memWrite_eq_setMem]; rfl
@[simp] theorem State.memWrite_txf : (s.memWrite b k bs).txf = s.txf := by
  rw [s.memWrite_eq_setMem]; rfl
@[simp] theorem State.memWrite_rxExp : (s.memWrite b k bs).rxExp = s.rxExp := by
  rw [s.memWrite_eq_setMem]; rfl
@[simp] theorem State.memWrite_rxLen : (s.memWrite b k bs).rxLen = s.rxLen := by
  rw [s.memWrite_eq_setMem]; rfl
@[simp] theorem State.memWrite_rxSeq : (s.memWrite b k bs).rxSeq = s.rxSeq := by
  rw [s.memWrite_eq_setMem]; rfl
@[simp] theorem State.memWrite_rxValid : (s.memWrite b k bs).rxValid = s.rxValid := by
  rw [s.memWrite_eq_setMem]; rfl
@[simp] theorem State.memWrite_msgLen : (s.memWrite b k bs).msgLen = s.msgLen := by
  rw [s.memWrite_eq_setMem]; rfl
@[simp] theorem State.memWrite_cfg : (s.memWrite b k bs).cfg = s.cfg := by
  rw [s.memWrite_eq_setMem]; rfl
@[simp] theorem State.memWrite_status : (s.memWrite b k bs).status = s.status := by
  rw [s.memWrite_eq_setMem]; rfl
@[simp] theorem State.memWrite_cond : (s.memWrite b k bs).cond = s.cond := by
  rw [s.memWrite_eq_setMem]; rfl
@[simp] theorem State.memWrite_stats : (s.memWrite b k bs).stats = s.stats := by
  rw [s.memWrite_eq_setMem]; rfl
@[simp] theorem State.memWrite_time : (s.memWrite b k bs).time = s.time := by
  rw [s.memWrite_eq_setMem]; rfl
@[simp] theorem State.memWrite_restarted : (s.memWrite b k bs).restarted = s.restarted := by
  rw [s.memWrite_eq_setMem]; rfl
@[simp] theorem State.memWrite_out : (s.memWrite b k bs).out = s.out := by
  rw [s.memWrite_eq_setMem]; rfl
@[simp] theorem State.memWrite_epoch : (s.memWrite b k bs).epoch = s.epoch := by
  rw [s.memWrite_eq_setMem]; rfl
@[simp] theorem State.memWrite_chan : (s.memWrite b k bs).chan = s.chan := by
  rw [s.memWrite_eq_setMem]; rfl
@[simp] theorem State.memWrite_script : (s.memWrite b k bs).script = s.script := by
  rw [s.memWrite_eq_setMem]; rfl
end

/-! A buffer byte is not touched by the update of another field. -/

section
variable (s : State) (b : Buffer) (k : Nat)
@[simp] theorem State.bufByte_setTxState (v : TxState) : (s.setTxState v).bufByte b k = s.bufByte b k := rfl
@[simp] theorem State.bufByte_setTxSeq (v : Bit) : (s.setTxSeq v).bufByte b k = s.bufByte b k := rfl
@[simp] theorem State.bufByte_setRetry (v : Byte) : (s.setRetry v).bufByte b k = s.bufByte b k := rfl
@[simp] theorem State.bufByte_setTimer (v : Word) : (s.setTimer v).bufByte b k = s.bufByte b k := rfl
@[simp] theorem State.bufByte_setTxf (v : DataFrame) : (s.setTxf v).bufByte b k = s.bufByte b k := rfl
@[simp] theorem State.bufByte_setRxExp (v : Bit) : (s.setRxExp v).bufByte b k = s.bufByte b k := rfl
@[simp] theorem State.bufByte_setRxLen (v : Half) : (s.setRxLen v).bufByte b k = s.bufByte b k := rfl
@[simp] theorem State.bufByte_setRxSeq (v : Bit) : (s.setRxSeq v).bufByte b k = s.bufByte b k := rfl
@[simp] theorem State.bufByte_setRxValid (v : Bool) : (s.setRxValid v).bufByte b k = s.bufByte b k := rfl
@[simp] theorem State.bufByte_setMsgLen (v : Half) : (s.setMsgLen v).bufByte b k = s.bufByte b k := rfl
@[simp] theorem State.bufByte_setCfg (v : Cfg) : (s.setCfg v).bufByte b k = s.bufByte b k := rfl
@[simp] theorem State.bufByte_setStatus (v : Status) : (s.setStatus v).bufByte b k = s.bufByte b k := rfl
@[simp] theorem State.bufByte_setCond (v : BitVec 4) : (s.setCond v).bufByte b k = s.bufByte b k := rfl
@[simp] theorem State.bufByte_setStats (v : Stats) : (s.setStats v).bufByte b k = s.bufByte b k := rfl
@[simp] theorem State.bufByte_setTime (v : Word) : (s.setTime v).bufByte b k = s.bufByte b k := rfl
@[simp] theorem State.bufByte_setRestarted (v : Bool) : (s.setRestarted v).bufByte b k = s.bufByte b k := rfl
@[simp] theorem State.bufByte_setOut (v : Outputs) : (s.setOut v).bufByte b k = s.bufByte b k := rfl
@[simp] theorem State.bufByte_setChan (v : Channel) : (s.setChan v).bufByte b k = s.bufByte b k := rfl
@[simp] theorem State.bufByte_setScript (v : List Stimulus) : (s.setScript v).bufByte b k = s.bufByte b k := rfl
end

/-- The two windows do not meet. -/
theorem Buffer.base_add_inj {b b' : Buffer} {k k' : Nat} (hk : k < 4096) (hk' : k' < 4096)
    (h : b.base + k = b'.base + k') : b = b' ∧ k = k' := by
  cases b <;> cases b' <;> simp [Buffer.base] at h ⊢ <;> omega

/-- A buffer byte after a byte write. -/
theorem State.bufByte_setBufByte (s : State) (hp : s.params.maxDataSize ≤ 4096) (b b' : Buffer) (k k' : Nat)
    (v : Byte) :
    (s.setBufByte b k v).bufByte b' k' =
      if b' = b ∧ k' = k ∧ k < s.params.maxDataSize then v else s.bufByte b' k' := by
  unfold State.setBufByte
  by_cases hk : k < s.params.maxDataSize
  · by_cases hk' : k' < s.params.maxDataSize
    · by_cases he : b' = b ∧ k' = k
      · obtain ⟨rfl, rfl⟩ := he
        simp [State.bufByte, hk, Memory.read?_write_same]
      · have hne : b'.base + k' ≠ b.base + k := fun h =>
          he (Buffer.base_add_inj (by omega) (by omega) h)
        have he' : ¬(b' = b ∧ k' = k ∧ k < s.params.maxDataSize) := fun h => he ⟨h.1, h.2.1⟩
        rw [if_neg he']
        simp [State.bufByte, hk, hk', Memory.read?_write_other _ _ hne]
    · have he' : ¬(b' = b ∧ k' = k ∧ k < s.params.maxDataSize) := fun h => by omega
      rw [if_neg he']
      simp [State.bufByte, hk, hk']
  · have he' : ¬(b' = b ∧ k' = k ∧ k < s.params.maxDataSize) := fun h => hk h.2.2
    rw [if_neg he', if_neg hk]

/-- A buffer byte after MemWrite. -/
theorem State.bufByte_memWrite (s : State) (hp : s.params.maxDataSize ≤ 4096) (b b' : Buffer) (k k' : Nat)
    (bs : List Byte) :
    (s.memWrite b k bs).bufByte b' k' =
      if b' = b ∧ k ≤ k' ∧ k' < k + bs.length ∧ k' < s.params.maxDataSize then bs.getD (k' - k) 0
      else s.bufByte b' k' := by
  induction bs generalizing s k with
  | nil =>
    have : ¬(b' = b ∧ k ≤ k' ∧ k' < k + ([] : List Byte).length ∧ k' < s.params.maxDataSize) := fun h => by
      have := h.2.2.1; simp at this; omega
    rw [if_neg this]; rfl
  | cons v vs ih =>
    rw [State.memWrite, ih _ (by simpa using hp), State.bufByte_setBufByte _ hp]
    simp only [State.setBufByte_params, List.length_cons]
    by_cases h1 : b' = b ∧ k + 1 ≤ k' ∧ k' < k + 1 + vs.length ∧ k' < s.params.maxDataSize
    · have h2 : b' = b ∧ k ≤ k' ∧ k' < k + (vs.length + 1) ∧ k' < s.params.maxDataSize :=
        ⟨h1.1, by omega, by omega, h1.2.2.2⟩
      rw [if_pos h1, if_pos h2]
      have : k' - k = (k' - (k + 1)) + 1 := by omega
      rw [this, List.getD_cons_succ]
    · rw [if_neg h1]
      by_cases h3 : b' = b ∧ k' = k ∧ k < s.params.maxDataSize
      · have h2 : b' = b ∧ k ≤ k' ∧ k' < k + (vs.length + 1) ∧ k' < s.params.maxDataSize :=
          ⟨h3.1, by omega, by omega, by omega⟩
        rw [if_pos h3, if_pos h2, h3.2.1]
        simp
      · have h2 : ¬(b' = b ∧ k ≤ k' ∧ k' < k + (vs.length + 1) ∧ k' < s.params.maxDataSize) := by
          rintro ⟨rfl, ha, hb, hc⟩
          rcases Nat.eq_or_lt_of_le ha with he | hlt
          · exact h3 ⟨rfl, he.symm, by omega⟩
          · exact h1 ⟨rfl, by omega, by omega, hc⟩
        rw [if_neg h3, if_neg h2]

/-- MemWrite keeps the canonical form of memory. -/
theorem State.memWrite_wf (s : State) (b : Buffer) (k : Nat) (bs : List Byte) (h : Memory.wf s.mem = true) :
    Memory.wf (s.memWrite b k bs).mem = true := by
  induction bs generalizing s k with
  | nil => exact h
  | cons v vs ih =>
    refine ih _ _ ?_
    unfold State.setBufByte
    split
    · exact Memory.wf_write _ _ h
    · exact h

/-- MemWrite lists no address that `p` lacks, if `p` has the buffer's existing bytes. -/
theorem State.memWrite_all (p : Nat → Bool) (s : State) (b : Buffer) (k : Nat) (bs : List Byte)
    (h : (s.mem.all fun c => p c.1) = true) (hp : ∀ j, j < s.params.maxDataSize → p (b.base + j) = true) :
    ((s.memWrite b k bs).mem.all fun c => p c.1) = true := by
  induction bs generalizing s k with
  | nil => exact h
  | cons v vs ih =>
    refine ih _ _ ?_ (by simpa using hp)
    unfold State.setBufByte
    split
    · exact Memory.all_write p _ h (hp _ ‹_›)
    · exact h

/-- Bytes at `MAX_DATA_SIZE` and above do not exist and read 0 (20_memory R65). -/
theorem State.bufByte_outside (s : State) (b : Buffer) {k : Nat} (h : s.params.maxDataSize ≤ k) :
    s.bufByte b k = 0 := by
  simp [State.bufByte, Nat.not_lt.mpr h]

@[simp] theorem State.memRead_length (s : State) (b : Buffer) (k n : Nat) : (s.memRead b k n).length = n := by
  simp [State.memRead]

theorem State.memRead_getD (s : State) (b : Buffer) (k n j : Nat) (h : j < n) :
    (s.memRead b k n).getD j 0 = s.bufByte b (k + j) := by
  simp [State.memRead, h, List.getD_eq_getElem?_getD]

end Sys2Proof.Machine
end

