-- ==== Sys2Proof/Laws/Frame.lean ====
section
/-! SUPPORT. The checksum and the frame builders: lengths, sums, and that a built frame is valid
(40_frame_checksum R121). -/

namespace Sys2Proof

@[simp] theorem checksum_nil : checksum [] = 0 := rfl

@[simp] theorem checksum_cons (b : Byte) (bs : List Byte) :
    checksum (b :: bs) = b.setWidth 32 + checksum bs := rfl

theorem checksum_append (as bs : List Byte) : checksum (as ++ bs) = checksum as + checksum bs := by
  induction as with
  | nil => simp
  | cons a as ih => simp [ih, BitVec.add_assoc]

/-- The sum of the bytes as a number, before any wrap. -/
def byteSum (bs : List Byte) : Nat := (bs.map BitVec.toNat).sum

theorem byteSum_le (bs : List Byte) : byteSum bs ≤ 255 * bs.length := by
  induction bs with
  | nil => simp [byteSum]
  | cons b bs ih =>
    have := b.isLt
    simp only [byteSum, List.map_cons, List.sum_cons, List.length_cons] at ih ⊢
    omega

/-- The checksum is the byte sum modulo 2^32 (R110). -/
theorem checksum_toNat (bs : List Byte) : (checksum bs).toNat = byteSum bs % 2 ^ 32 := by
  induction bs with
  | nil => rfl
  | cons b bs ih =>
    simp [byteSum, ih, Nat.add_mod]

/-- Below 2^24 bytes the sum does not wrap (R121, Range). -/
theorem checksum_toNat_of_short {bs : List Byte} (h : bs.length < 2 ^ 24) :
    (checksum bs).toNat = byteSum bs := by
  rw [checksum_toNat]
  have := byteSum_le bs
  exact Nat.mod_eq_of_lt (by omega)

@[simp] theorem DataFrame.body_length (f : DataFrame) : f.body.length = f.len.toNat := by
  simp [DataFrame.body]

@[simp] theorem DataFrame.body_getD (f : DataFrame) (k : Nat) :
    f.body.getD k 0 = if k < f.len.toNat then f.payload.getD k 0 else 0 := by
  by_cases h : k < f.len.toNat <;> simp [DataFrame.body, List.getD_eq_getElem?_getD, h]

@[simp] theorem DataFrame.image_length (f : DataFrame) : f.image.length = 4 + f.len.toNat := by
  simp [DataFrame.image]; omega

/-- The image does not hold the checksum field (R111). -/
@[simp] theorem DataFrame.image_csum (f : DataFrame) (c : Word) : { f with csum := c }.image = f.image := rfl

@[simp] theorem AckFrame.image_csum (a : AckFrame) (c : Word) : { a with csum := c }.image = a.image := rfl

section
variable (size : Nat) (seq : Bit) (bytes : List Byte)
@[simp] theorem buildData_type : (buildData size seq bytes).type = 0x01 := rfl
@[simp] theorem buildData_seq : (buildData size seq bytes).seq = seq.setWidth 8 := rfl
@[simp] theorem buildData_len : (buildData size seq bytes).len = BitVec.ofNat 16 bytes.length := rfl
@[simp] theorem buildData_payload :
    (buildData size seq bytes).payload = bytes ++ List.replicate (size - bytes.length) 0 := rfl
theorem buildData_csum : (buildData size seq bytes).csum = checksum (buildData size seq bytes).image := rfl
@[simp] theorem buildData_verify : (buildData size seq bytes).verify = true := by
  simp [DataFrame.verify, buildData_csum]
end

theorem buildData_payload_length {size : Nat} (seq : Bit) {bytes : List Byte} (h : bytes.length ≤ size) :
    (buildData size seq bytes).payload.length = size := by
  simp; omega

/-- The payload positions of a built frame: the bytes, then zeros (R113). -/
theorem buildData_payload_getD (size : Nat) (seq : Bit) (bytes : List Byte) (k : Nat) :
    (buildData size seq bytes).payload.getD k 0 = bytes.getD k 0 := by
  by_cases h : k < bytes.length
  · simp [List.getD_eq_getElem?_getD, List.getElem?_append_left h]
  · simp only [buildData_payload, List.getD_eq_getElem?_getD]
    rw [List.getElem?_append_right (by omega), List.getElem?_eq_none (by omega : bytes.length ≤ k)]
    by_cases h' : k - bytes.length < size - bytes.length <;> simp [h']

theorem Bit.setWidth_le_one (b : Bit) : (b.setWidth 8).toNat ≤ 1 := by
  have := b.isLt
  simp; omega

theorem buildData_wf {p : Params} (hp : p.maxDataSize ≤ 4096) (seq : Bit) {bytes : List Byte}
    (h : bytes.length ≤ p.maxDataSize) : (buildData p.maxDataSize seq bytes).wf p = true := by
  have := Bit.setWidth_le_one seq
  have h16 : bytes.length % 65536 = bytes.length := Nat.mod_eq_of_lt (by omega)
  simp only [DataFrame.wf, buildData_type, buildData_seq, buildData_len, BitVec.toNat_ofNat]
  simp only [h16]
  simp only [this, h, decide_true, beq_self_eq_true, Bool.and_self]

/-- A built frame is valid. -/
theorem buildData_valid {p : Params} (hp : p.maxDataSize ≤ 4096) (seq : Bit) {bytes : List Byte}
    (h : bytes.length ≤ p.maxDataSize) : (buildData p.maxDataSize seq bytes).valid p = true := by
  simp [DataFrame.valid, buildData_wf hp seq h]

theorem mkData_of_le {p : Params} (seq : Bit) {bytes : List Byte} (h : bytes.length ≤ p.maxDataSize) :
    mkData p seq bytes = some (buildData p.maxDataSize seq bytes) := by
  simp [mkData, Nat.not_lt.mpr h]

@[simp] theorem mkAck_type (n : Byte) : (mkAck n).type = 0x02 := rfl
@[simp] theorem mkAck_ack (n : Byte) : (mkAck n).ack = n := rfl
theorem mkAck_csum (n : Byte) : (mkAck n).csum = 0x2 + n.setWidth 32 := by
  simp [mkAck, AckFrame.image]

/-- An ack built for a legal number is valid. -/
theorem mkAck_valid {n : Byte} (h : n.toNat ≤ 1) : (mkAck n).valid = true := by
  simp only [AckFrame.valid, AckFrame.wf, AckFrame.verify, mkAck_type, mkAck_ack, mkAck_csum]
  simp [AckFrame.image, h]

/-- What VALID_DATA says of a frame (R116, R118, R120). -/
theorem DataFrame.valid_iff (p : Params) (f : DataFrame) :
    f.valid p = true ↔
      f.type = 0x01 ∧ f.seq.toNat ≤ 1 ∧ f.len.toNat ≤ p.maxDataSize ∧ f.csum = checksum f.image := by
  simp [DataFrame.valid, DataFrame.wf, DataFrame.verify, and_assoc]

/-- What VALID_ACK says of a frame (R117, R119, R120). -/
theorem AckFrame.valid_iff (a : AckFrame) :
    a.valid = true ↔ a.type = 0x02 ∧ a.ack.toNat ≤ 1 ∧ a.csum = checksum a.image := by
  simp [AckFrame.valid, AckFrame.wf, AckFrame.verify, and_assoc]

end Sys2Proof
end

