-- ==== Sys2Proof/Laws/Ops.lean ====
section
/-! SUPPORT. One lemma for each shared operation that says all it does. -/

namespace Sys2Proof.Machine

/-- SEND (41_transmitter R133). -/
theorem State.send_eq (s : State) :
    s.send = { s with
      out := { s.out with txd := some s.txf }, timer := 0, restarted := true, txState := .awaitingAck,
      stats := { s.stats with framesSent := s.stats.framesSent + 1 } } := rfl

/-- ACK_ACCEPT (R135). -/
theorem State.ackAccept_eq (s : State) :
    s.ackAccept = { s with
      txState := .idle, txSeq := s.txSeq ^^^ 1, retry := 0, stats := { s.stats with endTime := s.time },
      status := { s.status with done := true, success := true, err := 0 } } := rfl

/-- ACK_DISCARD (R136). -/
theorem State.ackDiscard_eq (s : State) : s.ackDiscard = { s with cond := 0x6 } := rfl

/-- RETRANSMIT (R138). -/
theorem State.retransmit_eq (s : State) :
    s.retransmit = { s with
      retry := s.retry + 1, stats := { s.stats with retransmissions := s.stats.retransmissions + 1 },
      out := { s.out with txd := some s.txf }, timer := 0, restarted := true, cond := 0x7 } := rfl

/-- FAIL (R139). -/
theorem State.fail_eq (s : State) :
    s.fail = { s with
      txState := .idle, stats := { s.stats with endTime := s.time }, cond := 0x4,
      status := { s.status with done := true, success := false, err := 0x4 } } := rfl

/-- REJECT (R131). -/
theorem State.reject_eq (s : State) (c : Cond) :
    s.reject c = { s with
      cond := c.code, status := { s.status with done := true, success := false, err := c.code } } := rfl

/-- BADCMD (43_host_commands R182). -/
theorem State.badCommand_eq (s : State) :
    s.badCommand = { s with status := { s.status with cmdErr := true }, cond := 0x9 } := rfl

/-- CLR_STATS (R181). -/
theorem State.clearStats_eq (s : State) : s.clearStats = { s with stats := ⟨0, 0, 0, 0, 0, 0, 0, 0⟩ } := rfl

/-- RX_DROP (42_receiver R163). -/
theorem State.rxDrop_eq (s : State) : s.rxDrop = { s with cond := 0x5 } := rfl

/-- RX_DUPLICATE (R162). -/
theorem State.rxDuplicate_eq (s : State) (f : DataFrame) :
    s.rxDuplicate f = { s with
      cond := 0xA
      out := if s.cfg.reackDup then { s.out with txa := some (mkAck f.seq) } else s.out
      stats := if s.cfg.reackDup then { s.stats with acksSent := s.stats.acksSent + 1 } else s.stats } := by
  unfold State.rxDuplicate
  cases h : s.cfg.reackDup <;>
    simp [h, State.raiseCond, State.emitAck, State.incAcksSent, State.setCond, State.setOut, State.setStats,
      Cond.code]

/-- RX_ACCEPT (R161): the buffer write in `mem`, everything else spelt out. -/
theorem State.rxAccept_eq (s : State) (f : DataFrame) :
    s.rxAccept f = { s with
      mem := (s.memWrite .rx 0 f.body).mem, rxLen := f.len, rxSeq := f.seq.extractLsb' 0 1, rxValid := true,
      out := { s.out with rxDeliver := true, txa := some (mkAck f.seq) },
      stats := { s.stats with acksSent := s.stats.acksSent + 1 }, rxExp := s.rxExp ^^^ 1 } := by
  apply State.ext <;> simp [State.rxAccept, State.emitAck, State.incAcksSent]

/-- The accepted part of START before the frame is built (41_transmitter R131). -/
theorem State.startMessage_eq (s : State) :
    s.startMessage = { s with
      txSeq := if s.cfg.persist then s.txSeq else 0, rxExp := if s.cfg.persist then s.rxExp else 0,
      retry := 0, cond := 0x0, stats := { s.stats with startTime := s.time },
      status := { s.status with done := false, success := false, err := 0 } } := by
  unfold State.startMessage
  cases h : s.cfg.persist <;>
    simp [State.setTxSeq, State.setRxExp, State.setRetry, State.setStatus, State.setCond, State.setStats,
      Cond.code]

/-- The payload START reads is unaffected by the registers it clears. -/
theorem State.startPayload_startMessage (s : State) : s.startMessage.startPayload = s.startPayload := by
  rw [State.startMessage_eq]; rfl

@[simp] theorem State.startPayload_length (s : State) : s.startPayload.length = s.msgLen.toNat := by
  simp [State.startPayload, State.startLen]

/-- A START while a message is in flight (R131, Busy). -/
theorem State.startCommand_busy {s : State} (h : s.txState = .awaitingAck) :
    s.startCommand = { s with status := { s.status with cmdErr := true }, cond := 0x8 } := by
  simp [State.startCommand, h, State.setCmdErr, State.raiseCond, State.setStatus, State.setCond, Cond.code]

/-- A START of an empty message (R131). -/
theorem State.startCommand_empty {s : State} (h : s.txState = .idle) (hn : s.msgLen.toNat = 0) :
    s.startCommand = s.reject .emptyMessage := by
  simp [State.startCommand, h, State.startLen, hn]

/-- A START of a message that is too large (R131). -/
theorem State.startCommand_large {s : State} (h : s.txState = .idle) (h0 : s.msgLen.toNat ≠ 0)
    (hn : s.params.maxDataSize ≤ s.msgLen.toNat) : s.startCommand = s.reject .messageTooLarge := by
  simp [State.startCommand, h, State.startLen, h0, hn]

/-- The frame an accepted START builds (R131, 30_encoding R89). -/
def State.startFrame (s : State) : DataFrame :=
  buildData s.params.maxDataSize (if s.cfg.persist then s.txSeq else 0) s.startPayload

/-- An accepted START (R131, R133). -/
theorem State.startCommand_accepted {s : State} (h : s.txState = .idle) (h0 : s.msgLen.toNat ≠ 0)
    (hn : s.msgLen.toNat < s.params.maxDataSize) :
    s.startCommand = { s with
      txSeq := if s.cfg.persist then s.txSeq else 0, rxExp := if s.cfg.persist then s.rxExp else 0,
      retry := 0, cond := 0x0,
      stats := { s.stats with startTime := s.time, framesSent := s.stats.framesSent + 1 },
      status := { s.status with done := false, success := false, err := 0 },
      txf := s.startFrame, out := { s.out with txd := some s.startFrame }, timer := 0, restarted := true,
      txState := .awaitingAck } := by
  have hl : s.startPayload.length ≤ s.params.maxDataSize := by
    rw [State.startPayload_length]; omega
  have hmk : mkData s.startMessage.params s.startMessage.txSeq s.startMessage.startPayload
      = some s.startFrame := by
    rw [State.startPayload_startMessage, State.startMessage_eq]
    exact mkData_of_le _ hl
  have hn' : ¬ s.params.maxDataSize ≤ s.msgLen.toNat := by omega
  unfold State.startCommand
  simp only [h, State.startLen, h0, hn', reduceCtorEq, if_false, hmk, State.send_eq]
  rw [State.startMessage_eq]
  rfl

/-- The four cases of a START (R131). -/
theorem State.startCommand_cases (s : State) :
    (s.txState = .awaitingAck ∧
        s.startCommand = { s with status := { s.status with cmdErr := true }, cond := 0x8 }) ∨
      (s.txState = .idle ∧ s.msgLen.toNat = 0 ∧ s.startCommand = s.reject .emptyMessage) ∨
      (s.txState = .idle ∧ s.msgLen.toNat ≠ 0 ∧ s.params.maxDataSize ≤ s.msgLen.toNat ∧
        s.startCommand = s.reject .messageTooLarge) ∨
      (s.txState = .idle ∧ s.msgLen.toNat ≠ 0 ∧ s.msgLen.toNat < s.params.maxDataSize ∧
        s.startCommand = { s with
          txSeq := if s.cfg.persist then s.txSeq else 0, rxExp := if s.cfg.persist then s.rxExp else 0,
          retry := 0, cond := 0x0,
          stats := { s.stats with startTime := s.time, framesSent := s.stats.framesSent + 1 },
          status := { s.status with done := false, success := false, err := 0 },
          txf := s.startFrame, out := { s.out with txd := some s.startFrame }, timer := 0, restarted := true,
          txState := .awaitingAck }) := by
  by_cases h : s.txState = .awaitingAck
  · exact .inl ⟨h, State.startCommand_busy h⟩
  · have h : s.txState = .idle := by cases hs : s.txState <;> simp_all
    by_cases h0 : s.msgLen.toNat = 0
    · exact .inr (.inl ⟨h, h0, State.startCommand_empty h h0⟩)
    · by_cases hn : s.msgLen.toNat < s.params.maxDataSize
      · exact .inr (.inr (.inr ⟨h, h0, hn, State.startCommand_accepted h h0 hn⟩))
      · exact .inr (.inr (.inl ⟨h, h0, by omega, State.startCommand_large h h0 (by omega)⟩))

end Sys2Proof.Machine
end

