-- ==== Sys2Proof/Laws/Cycle.lean ====
section
/-! SUPPORT. The cycle: every operation answers a next state, so does every cycle; sequences compose; a channel
that holds presents the sample as it is. -/

namespace Sys2Proof.Machine

@[simp] theorem andThen_next (s : State) (k : State → Host.Outcome State Fault Refusal) :
    andThen (.next s) k = k s := rfl

/-- Every operation answers a next state (70_reset R272, 60_exceptions R233). -/
theorem exec_next (i : Instr) (s : State) : ∃ t, exec i s = .next t := by
  cases i <;> exact ⟨_, rfl⟩

/-- The state an operation leaves. -/
def after (i : Instr) (s : State) : State :=
  match exec i s with
  | .next t => t
  | .fault _ => s
  | .refused _ => s

theorem exec_eq_after (i : Instr) (s : State) : exec i s = .next (after i s) := by
  obtain ⟨t, h⟩ := exec_next i s
  simp [after, h]

@[simp] theorem runInstrs_nil (s : State) : runInstrs [] s = .next s := rfl

@[simp] theorem runInstrs_cons (i : Instr) (is : List Instr) (s : State) :
    runInstrs (i :: is) s = runInstrs is (after i s) := by
  simp [runInstrs, exec_eq_after]

/-- The state a sequence of operations leaves. -/
def afterAll (is : List Instr) (s : State) : State := is.foldl (fun t i => after i t) s

theorem runInstrs_eq_afterAll (is : List Instr) (s : State) : runInstrs is s = .next (afterAll is s) := by
  induction is generalizing s with
  | nil => rfl
  | cons i is ih => simp [ih, afterAll]

/-- A property that every listed operation keeps is kept by the sequence. -/
theorem afterAll_keeps {P : State → Prop} {is : List Instr} (h : ∀ i ∈ is, ∀ t, P t → P (after i t)) {s : State}
    (hs : P s) : P (afterAll is s) := by
  induction is generalizing s with
  | nil => exact hs
  | cons i is ih =>
    exact ih (fun j hj => h j (List.mem_cons_of_mem _ hj)) (h i List.mem_cons_self s hs)

/-- The state sub-steps 1 to 3 leave (30_encoding R95). -/
def afterEarly (I : Sample) (s : State) : State := afterAll I.earlyInstrs s.beginCycle

/-- The state sub-step 4 leaves. -/
def afterTimeout (I : Sample) (s : State) : State :=
  afterAll (afterEarly I s).timeoutInstrs (afterEarly I s)

/-- The state sub-steps 5 and 6 leave. -/
def afterLate (I : Sample) (s : State) : State := afterAll I.lateInstrs (afterTimeout I s)

/-- A cycle out of reset, sub-step by sub-step. -/
theorem cycle_running {I : Sample} (h : I.rstN = true) (s : State) :
    cycle I s = .next (afterLate I s).endCycle := by
  simp [cycle, h, runInstrs_eq_afterAll, afterEarly, afterTimeout, afterLate]

/-- A cycle in reset (70_reset R260). -/
theorem cycle_reset {I : Sample} (h : I.rstN = false) (s : State) : cycle I s = .next s.resetCycle := by
  simp [cycle, h]

/-- The state a clock edge leaves. -/
def State.edge (s : State) : State :=
  let t := if s.sample.rstN then (afterLate s.sample s.fetched).endCycle else s.fetched.resetCycle
  t.setChan (s.chan.after s.stimulus t.out)

theorem clockEdge_eq (s : State) : clockEdge s = .next s.edge := by
  unfold clockEdge State.edge
  cases h : s.sample.rstN
  · simp [cycle_reset h]
  · simp [cycle_running h]

/-- Every step with legal parameters completes, in the state `edge` gives. -/
theorem step_legal {s : State} (h : s.params.legal = true) : step s = .next s.edge := by
  simp [step, legalEdge, h, clockEdge_eq]

/-- A step with parameters outside R7 is refused. -/
theorem step_illegal {s : State} (h : s.params.legal = false) : step s = .refused .parameterOutOfRange := by
  simp [step, legalEdge, h]

/-- What a completed step says: the parameters are legal and the state is `edge`. -/
theorem step_next_iff (s t : State) : step s = .next t ↔ s.params.legal = true ∧ t = s.edge := by
  cases h : s.params.legal
  · simp [step_illegal h]
  · simp [step_legal h, eq_comm]

/-- A channel with no frame due presents the sample as it stands. -/
theorem Channel.present_quiet {c : Channel} {st : Stimulus} (hd : slotEvent c.net st.sample.tick c.data = .quiet)
    (ha : slotEvent c.net st.sample.tick c.ack = .quiet) : c.present st = st.sample := by
  simp [Channel.present, slotFrame, slotLost, hd, ha]

/-- An empty channel presents the sample as it stands. -/
theorem Channel.present_empty (net : NetConfig) (st : Stimulus) :
    (Channel.mk net none none).present st = st.sample := Channel.present_quiet rfl rfl

/-- The channel does not touch the reset, bus and tick ports. -/
@[simp] theorem Channel.present_rstN (c : Channel) (st : Stimulus) : (c.present st).rstN = st.sample.rstN := rfl
@[simp] theorem Channel.present_busValid (c : Channel) (st : Stimulus) :
    (c.present st).busValid = st.sample.busValid := rfl
@[simp] theorem Channel.present_busWe (c : Channel) (st : Stimulus) : (c.present st).busWe = st.sample.busWe := rfl
@[simp] theorem Channel.present_busAddr (c : Channel) (st : Stimulus) :
    (c.present st).busAddr = st.sample.busAddr := rfl
@[simp] theorem Channel.present_busWdata (c : Channel) (st : Stimulus) :
    (c.present st).busWdata = st.sample.busWdata := rfl
@[simp] theorem Channel.present_tick (c : Channel) (st : Stimulus) : (c.present st).tick = st.sample.tick := rfl

/-- A slot without its due frame does nothing in the cycle. -/
theorem slotEvent_undueSlot {α : Type} (net : NetConfig) (tick : Bool) (slot : Option (Flight α)) :
    slotEvent net tick (undueSlot net tick slot) = .quiet := by
  unfold undueSlot
  cases h : slotEvent net tick slot <;> simp [slotEvent] at h ⊢
  exact h

/-- A channel without its due frames presents the sample as it stands: `place` puts exactly its operation there. -/
theorem Channel.present_undue (c : Channel) (st : Stimulus) : (c.undue st.sample.tick).present st = st.sample :=
  Channel.present_quiet (slotEvent_undueSlot _ _ _) (slotEvent_undueSlot _ _ _)

/-- The operation of sub-step 4 (41_transmitter R137). -/
theorem State.timeoutInstrs_cases (s : State) :
    (s.timedOut = false ∧ s.timeoutInstrs = []) ∨
      (s.timedOut = true ∧ s.budgetLeft = true ∧ s.timeoutInstrs = [.timeoutRetransmit]) ∨
      (s.timedOut = true ∧ s.budgetLeft = false ∧ s.timeoutInstrs = [.timeoutFail]) := by
  unfold State.timeoutInstrs
  cases h : s.timedOut <;> cases h' : s.budgetLeft <;> simp

/-- CCW bit 7 (30_encoding R91). -/
theorem State.timedOut_iff (s : State) :
    s.timedOut = true ↔ s.txState = .awaitingAck ∧ s.params.timeoutTicks < s.timer.toNat := by
  simp [State.timedOut]

theorem State.budgetLeft_iff (s : State) : s.budgetLeft = true ↔ s.retry.toNat < s.params.maxRetries := by
  simp [State.budgetLeft]

end Sys2Proof.Machine
end

