-- ==== Sys2Proof/Laws/Exec.lean ====
section
/-! SUPPORT. What each operation can do, said once: the cases of the guarded operations, and the fields that no
operation touches. -/

namespace Sys2Proof.Machine

/-- The ranges of 00_scope R7. -/
theorem Params.legal_iff (p : Params) :
    p.legal = true ↔ 2 ≤ p.maxDataSize ∧ p.maxDataSize ≤ 4096 ∧ p.maxRetries ≤ 255 ∧
      p.timeoutTicks ≤ 4294967294 := by
  simp [Params.legal, and_assoc]

/-- The ack of R115, field by field. -/
theorem mkAck_eq (n : Byte) : mkAck n = ⟨0x02, n, 0x2 + n.setWidth 32⟩ := by
  have h := mkAck_csum n
  unfold mkAck at *
  simpa using h

/-- When the transmitter accepts an ack (41_transmitter R134). -/
theorem State.accepts_iff (s : State) (a : AckFrame) :
    s.accepts a = true ↔ s.txState = .awaitingAck ∧ a.type = 0x02 ∧ a.ack = s.txSeq.setWidth 8 ∧
      a.csum = 0x2 + a.ack.setWidth 32 := by
  unfold State.accepts
  simp only [Bool.and_eq_true, beq_iff_eq, AckFrame.valid_iff]
  constructor
  · rintro ⟨⟨h1, h2, -, h4⟩, h5⟩
    exact ⟨h1, h2, h5, by rw [h4]; simp [AckFrame.image, h2]⟩
  · rintro ⟨h1, h2, h3, h4⟩
    refine ⟨⟨h1, h2, ?_, ?_⟩, h3⟩
    · rw [h3]; exact Bit.setWidth_le_one _
    · rw [h4]; simp [AckFrame.image, h2]

/-- The memory a buffer write leaves depends on the memory and the parameters only. -/
theorem State.memWrite_mem_congr {s t : State} (hm : t.mem = s.mem) (hp : t.params = s.params) (b : Buffer)
    (k : Nat) (bs : List Byte) : (t.memWrite b k bs).mem = (s.memWrite b k bs).mem := by
  induction bs generalizing s t k with
  | nil => exact hm
  | cons v vs ih =>
    refine ih ?_ ?_ (k + 1)
    · simp only [State.setBufByte, hp]
      split <;> simp [hm]
    · simp only [State.setBufByte, hp]
      split <;> simp [hp]

/-- RX_DATA (42_receiver R160): the three outcomes. -/
theorem after_rxData (f : DataFrame) (s : State) :
    (f.valid s.params = false ∧ after (.rxData f) s = s.incFramesReceived.rxDrop) ∨
      (f.valid s.params = true ∧ f.seq = s.rxExp.setWidth 8 ∧
        after (.rxData f) s = s.incFramesReceived.rxAccept f) ∨
      (f.valid s.params = true ∧ f.seq ≠ s.rxExp.setWidth 8 ∧
        after (.rxData f) s = s.incFramesReceived.rxDuplicate f) := by
  have hv : f.valid s.incFramesReceived.params = f.valid s.params := rfl
  have he : s.incFramesReceived.expects f = s.expects f := rfl
  simp only [after, exec, execRxData, hv, he]
  cases h : f.valid s.params
  · simp
  · by_cases h' : f.seq = s.rxExp.setWidth 8 <;> simp [State.expects, h']

/-- RX_ACK (41_transmitter R134): the two outcomes. -/
theorem after_rxAck (a : AckFrame) (s : State) :
    (s.accepts a = true ∧ after (.rxAck a) s = s.incAcksReceived.ackAccept) ∨
      (s.accepts a = false ∧ after (.rxAck a) s = s.incAcksReceived.ackDiscard) := by
  have he : s.incAcksReceived.accepts a = s.accepts a := rfl
  simp only [after, exec, execRxAck, he]
  cases s.accepts a <;> simp

/-- TICK (R141): TIME counts; TIMER counts in AWAITING_ACK unless the cycle (re)started it. -/
theorem after_tick (s : State) :
    after .tick s = { s with
      time := s.time + 1
      timer := if s.txState = .awaitingAck ∧ s.restarted = false then timerNext s.timer else s.timer } := by
  simp only [after, exec, execTick]
  by_cases h : s.txState = .awaitingAck ∧ s.restarted = false
  · simp only [State.setTime, h, and_self, if_true, State.setTimer]
  · simp only [State.setTime, h, if_false]

/-- A command word runs one of four operations (43_host_commands R191). -/
theorem State.cmdWrite_cases (s : State) (w : Word) :
    s.cmdWrite w = s ∨ s.cmdWrite w = s.startCommand ∨ s.cmdWrite w = s.clearStats ∨
      s.cmdWrite w = s.badCommand := by
  simp only [State.cmdWrite]
  by_cases h0 : w.extractLsb' 0 4 = 0x0
  · exact .inl (if_pos h0)
  · by_cases h1 : w.extractLsb' 0 4 = 0x1
    · exact .inr (.inl (by rw [if_neg h0, if_pos h1]))
    · by_cases h2 : w.extractLsb' 0 4 = 0x2
      · exact .inr (.inr (.inl (by rw [if_neg h0, if_neg h1, if_pos h2])))
      · exact .inr (.inr (.inr (by rw [if_neg h0, if_neg h1, if_neg h2])))

/-- START touches no parameter, buffer byte or environment field. -/
theorem State.startCommand_frame (s : State) :
    s.startCommand.params = s.params ∧ s.startCommand.epoch = s.epoch ∧ s.startCommand.chan = s.chan ∧
      s.startCommand.script = s.script ∧ s.startCommand.mem = s.mem := by
  rcases s.startCommand_cases with ⟨-, h⟩ | ⟨-, -, h⟩ | ⟨-, -, -, h⟩ | ⟨-, -, -, h⟩ <;> rw [h] <;>
    simp [State.reject_eq]

/-- STATUS_WRITE (R186) as one update. -/
theorem State.statusWrite_eq (s : State) (w : Word) :
    s.statusWrite w = { s with status := { s.status with
      done := s.status.done && !w.getLsbD 3, cmdErr := s.status.cmdErr && !w.getLsbD 5 } } := by
  unfold State.statusWrite
  cases w.getLsbD 3 <;> cases w.getLsbD 5 <;> simp [State.clearDone, State.setStatus]

/-- A bus write touches no parameter and no environment field. -/
theorem State.writeTarget_frame (s : State) (w : Word) (t : BusTarget) :
    (s.writeTarget w t).params = s.params ∧ (s.writeTarget w t).epoch = s.epoch ∧
      (s.writeTarget w t).chan = s.chan ∧ (s.writeTarget w t).script = s.script := by
  cases t with
  | cmd =>
    have hs := s.startCommand_frame
    rcases s.cmdWrite_cases w with h | h | h | h <;> simp only [State.writeTarget, h] <;>
      simp [State.clearStats_eq, State.badCommand_eq, hs]
  | status => simp [State.writeTarget, State.statusWrite_eq]
  | rxStatus => simp only [State.writeTarget, State.rxStatusWrite]; split <;> simp
  | txBuf k => simp [State.writeTarget, State.txBufWrite]
  | _ => exact ⟨rfl, rfl, rfl, rfl⟩

/-- No operation touches the parameters, the reset epoch, the channel or the script. -/
theorem after_frame (i : Instr) (s : State) :
    (after i s).params = s.params ∧ (after i s).epoch = s.epoch ∧ (after i s).chan = s.chan ∧
      (after i s).script = s.script := by
  cases i with
  | regRead addr => simp only [after, exec, execRegRead]; split <;> exact ⟨rfl, rfl, rfl, rfl⟩
  | regWrite addr w =>
    simp only [after, exec, execRegWrite]
    split
    · exact State.writeTarget_frame _ _ _
    · exact ⟨rfl, rfl, rfl, rfl⟩
  | start _ =>
    obtain ⟨h1, h2, h3, h4, -⟩ := s.startCommand_frame
    exact ⟨h1, h2, h3, h4⟩
  | rxData f =>
    rcases after_rxData f s with ⟨-, h⟩ | ⟨-, -, h⟩ | ⟨-, -, h⟩ <;> rw [h] <;>
      simp [State.rxDrop_eq, State.rxAccept_eq, State.rxDuplicate_eq, State.incFramesReceived]
  | rxAccept f => simp only [after, exec, execRxAccept]; split <;> simp [State.rxAccept_eq]
  | rxDuplicate f => simp only [after, exec, execRxDuplicate]; split <;> simp [State.rxDuplicate_eq]
  | rxDrop f => simp only [after, exec, execRxDrop]; split <;> simp [State.rxDrop_eq]
  | rxAck a =>
    rcases after_rxAck a s with ⟨-, h⟩ | ⟨-, h⟩ <;> rw [h] <;>
      simp [State.ackAccept_eq, State.ackDiscard_eq, State.incAcksReceived]
  | ackAccept a => simp only [after, exec, execAckAccept]; split <;> simp [State.ackAccept_eq]
  | ackDiscard a => simp only [after, exec, execAckDiscard]; split <;> simp [State.ackDiscard_eq]
  | timeoutRetransmit => simp only [after, exec, execTimeoutRetransmit]; split <;> simp [State.retransmit_eq]
  | timeoutFail => simp only [after, exec, execTimeoutFail]; split <;> simp [State.fail_eq]
  | tick => simp [after_tick]
  | _ => exact ⟨rfl, rfl, rfl, rfl⟩

end Sys2Proof.Machine
end

