-- ==== Sys2Proof/Laws/Decode.lean ====
section
/-! SUPPORT. The byte order and the encodings: lanes and words, the CCW bits, the image of a sample. -/

namespace Sys2Proof

/-- A word is the word of its lanes. -/
@[simp] theorem wordOfLanes_laneOf (w : Word) :
    wordOfLanes (laneOf w 0) (laneOf w 1) (laneOf w 2) (laneOf w 3) = w := by
  apply BitVec.eq_of_getLsbD_eq
  intro i hi
  simp only [wordOfLanes, laneOf, BitVec.getLsbD_append, BitVec.getLsbD_extractLsb']
  interval_cases i <;> simp

/-- A 16-bit field is the field of its lanes. -/
@[simp] theorem halfOfLanes_halfLane (h : Half) : halfOfLanes (halfLane h 0) (halfLane h 1) = h := by
  apply BitVec.eq_of_getLsbD_eq
  intro i hi
  simp only [halfOfLanes, halfLane, BitVec.getLsbD_append, BitVec.getLsbD_extractLsb']
  interval_cases i <;> simp

/-- The lanes of a word of lanes. -/
theorem laneOf_wordOfLanes (b0 b1 b2 b3 : Byte) :
    laneOf (wordOfLanes b0 b1 b2 b3) 0 = b0 ∧ laneOf (wordOfLanes b0 b1 b2 b3) 1 = b1 ∧
      laneOf (wordOfLanes b0 b1 b2 b3) 2 = b2 ∧ laneOf (wordOfLanes b0 b1 b2 b3) 3 = b3 := by
  refine ⟨?_, ?_, ?_, ?_⟩ <;>
  · apply BitVec.eq_of_getLsbD_eq
    intro i hi
    simp only [wordOfLanes, laneOf, BitVec.getLsbD_append, BitVec.getLsbD_extractLsb']
    interval_cases i <;> simp

/-- Bit by bit, the CCW of a sample (30_encoding R91). -/
theorem Sample.ccw_bits (I : Sample) :
    I.ccw.getLsbD 0 = I.busValid ∧ I.ccw.getLsbD 1 = I.busWe ∧ I.ccw.getLsbD 2 = I.rxdValid ∧
      I.ccw.getLsbD 3 = I.rxaValid ∧ I.ccw.getLsbD 4 = I.tick ∧ I.ccw.getLsbD 5 = I.dataLost ∧
      I.ccw.getLsbD 6 = I.ackLost ∧ I.ccw.getLsbD 7 = false := by
  unfold Sample.ccw
  cases I.busValid <;> cases I.busWe <;> cases I.rxdValid <;> cases I.rxaValid <;> cases I.tick <;>
    cases I.dataLost <;> cases I.ackLost <;> decide

/-- Sub-step 1 of a sample: the rows REG_READ and REG_WRITE (30_encoding R92). -/
theorem busInstrs_ccw (I : Sample) :
    busInstrs I.ccw I =
      if I.busValid then
        (if I.busWe then [.regWrite I.busAddr I.busWdata] else [.regRead I.busAddr])
      else [] := by
  unfold busInstrs rowMatches Sample.ccw
  cases I.busValid <;> cases I.busWe <;> cases I.rxdValid <;> cases I.rxaValid <;> cases I.tick <;>
    cases I.dataLost <;> cases I.ackLost <;> rfl

/-- Sub-step 2 of a sample: the row RX_DATA. -/
theorem dataInstrs_ccw (I : Sample) :
    dataInstrs I.ccw I = if I.rxdValid then [.rxData I.rxdFrame] else [] := by
  unfold dataInstrs rowMatches Sample.ccw
  cases I.busValid <;> cases I.busWe <;> cases I.rxdValid <;> cases I.rxaValid <;> cases I.tick <;>
    cases I.dataLost <;> cases I.ackLost <;> rfl

/-- Sub-step 3 of a sample: the row RX_ACK. -/
theorem ackInstrs_ccw (I : Sample) :
    ackInstrs I.ccw I = if I.rxaValid then [.rxAck I.rxaFrame] else [] := by
  unfold ackInstrs rowMatches Sample.ccw
  cases I.busValid <;> cases I.busWe <;> cases I.rxdValid <;> cases I.rxaValid <;> cases I.tick <;>
    cases I.dataLost <;> cases I.ackLost <;> rfl

/-- The operations of sub-steps 1 to 3 of a sample. -/
theorem Sample.earlyInstrs_eq (I : Sample) :
    I.earlyInstrs =
      (if I.busValid then
        (if I.busWe then [.regWrite I.busAddr I.busWdata] else [.regRead I.busAddr])
      else [])
        ++ (if I.rxdValid then [.rxData I.rxdFrame] else [])
        ++ (if I.rxaValid then [.rxAck I.rxaFrame] else []) := by
  rw [Sample.earlyInstrs, busInstrs_ccw, dataInstrs_ccw, ackInstrs_ccw]

/-- The operations of sub-steps 5 and 6 of a sample. -/
theorem Sample.lateInstrs_eq (I : Sample) :
    I.lateInstrs =
      (if I.tick then [.tick] else []) ++ (if I.dataLost then [.lossData] else [])
        ++ (if I.ackLost then [.lossAck] else []) := by
  unfold Sample.lateInstrs Sys2Proof.lateInstrs rowMatches Sample.ccw
  cases I.busValid <;> cases I.busWe <;> cases I.rxdValid <;> cases I.rxaValid <;> cases I.tick <;>
    cases I.dataLost <;> cases I.ackLost <;> rfl

/-- An input sample's CCW never has the internal bit, so it selects the operations of its sub-steps. -/
theorem selectedInstrs_ccw (I : Sample) : selectedInstrs I.ccw I = I.earlyInstrs ++ I.lateInstrs := by
  have h : timeoutPattern I.ccw = [] := by
    unfold timeoutPattern rowMatches Sample.ccw
    cases I.busValid <;> cases I.busWe <;> cases I.rxdValid <;> cases I.rxaValid <;> cases I.tick <;>
      cases I.dataLost <;> cases I.ackLost <;> rfl
  simp [selectedInstrs, h, Sample.earlyInstrs, Sample.lateInstrs]

/-- The fields of a sample laid out with any CCW come back: the ports from their bytes, the valid bits from the
CCW. -/
theorem sampleOfImage_imageWith (ccw : Byte) (I : Sample) :
    sampleOfImage (imageWith ccw I) =
      { I with
        rstN := true, busValid := ccw.getLsbD 0, busWe := ccw.getLsbD 1, rxdValid := ccw.getLsbD 2,
        rxaValid := ccw.getLsbD 3, tick := ccw.getLsbD 4, dataLost := ccw.getLsbD 5, ackLost := ccw.getLsbD 6 } := by
  simp [sampleOfImage, imageWith, imageByte, imageHalf, imageWord, halfImage, wordImage]

/-- The image of a command word is the word. -/
theorem decodeCommandBytes_wordImage (w : Word) : decodeCommandBytes (wordImage w) = .ok (decodeCommand w) := by
  simp [decodeCommandBytes, wordImage]

end Sys2Proof
end

