-- ==== Sys2Proof/Laws/PerInstr.lean ====
section
/-! SUPPORT. What is proved instruction by instruction: decoding the words of an operation that owns its pattern
gives the operation back. -/

namespace Sys2Proof.Laws.RoundTrip

/-- Decoding the words of a well-formed operation gives it back, if its row of the table owns the pattern. -/
def Statement (i : Instr) : Prop :=
  ∀ p : Params, i.wf p = true → i.ownsPattern = true → decode i.format (encode i) = .ok i

/-- The image of an operation of the CCW format decodes to the operations its CCW selects on its sample. -/
theorem decodeImage_imageWith (ccw : Byte) (I : Sample) (i : Instr)
    (h : selectedInstrs ccw
      { I with
        rstN := true, busValid := ccw.getLsbD 0, busWe := ccw.getLsbD 1, rxdValid := ccw.getLsbD 2,
        rxaValid := ccw.getLsbD 3, tick := ccw.getLsbD 4, dataLost := ccw.getLsbD 5,
        ackLost := ccw.getLsbD 6 } = [i]) :
    decodeImage (imageWith ccw I) = .ok i := by
  have hc : ∃ rest, imageWith ccw I = ccw :: rest := ⟨_, rfl⟩
  obtain ⟨rest, hr⟩ := hc
  have := sampleOfImage_imageWith ccw I
  rw [hr] at this ⊢
  simp only [decodeImage, this, h]

/-- The OP bits and the ignored bits of a command word come apart again (R84). -/
theorem command_parts (rest : BitVec 28) (op : BitVec 4) :
    (rest ++ op).extractLsb' 4 28 = rest ∧ (rest ++ op : BitVec 32) &&& 0xF#32 = op.setWidth 32 ∧
      (rest ++ op : BitVec 32) &&& 0xC#32 = op.setWidth 32 &&& 0xC#32 := by
  refine ⟨?_, ?_, ?_⟩ <;>
  · apply BitVec.eq_of_getLsbD_eq
    intro i hi
    simp only [BitVec.getLsbD_extractLsb', BitVec.getLsbD_append, BitVec.getLsbD_and, BitVec.getLsbD_setWidth]
    interval_cases i <;> simp

theorem regRead (addr : Half) : Statement (.regRead addr) := fun _ _ _ => by
  refine decodeImage_imageWith _ _ _ ?_
  simp [selectedInstrs, busInstrs, dataInstrs, ackInstrs, timeoutPattern, lateInstrs, rowMatches, Instr.ccw,
    Instr.sample, Sample.idle]

theorem regWrite (addr : Half) (wdata : Word) : Statement (.regWrite addr wdata) := fun _ _ _ => by
  refine decodeImage_imageWith _ _ _ ?_
  simp [selectedInstrs, busInstrs, dataInstrs, ackInstrs, timeoutPattern, lateInstrs, rowMatches, Instr.ccw,
    Instr.sample, Sample.idle]

theorem nop (rest : BitVec 28) : Statement (.nop rest) := fun _ _ _ => by
  have h := command_parts rest 0x0#4
  simp [decode, encode, Instr.format, Instr.commandWord, decodeCommandBytes_wordImage, decodeCommand, h]

theorem start (rest : BitVec 28) : Statement (.start rest) := fun _ _ _ => by
  have h := command_parts rest 0x1#4
  simp [decode, encode, Instr.format, Instr.commandWord, decodeCommandBytes_wordImage, decodeCommand, h]

theorem clrStats (rest : BitVec 28) : Statement (.clrStats rest) := fun _ _ _ => by
  have h := command_parts rest 0x2#4
  simp [decode, encode, Instr.format, Instr.commandWord, decodeCommandBytes_wordImage, decodeCommand, h]

theorem cmdReserved3 (rest : BitVec 28) : Statement (.cmdReserved3 rest) := fun _ _ _ => by
  have h := command_parts rest 0x3#4
  simp [decode, encode, Instr.format, Instr.commandWord, decodeCommandBytes_wordImage, decodeCommand, h]

theorem cmdReserved47 (low : BitVec 2) (rest : BitVec 28) : Statement (.cmdReserved47 low rest) := fun _ _ _ => by
  have h := command_parts rest (0b01#2 ++ low)
  have hl : (rest ++ (0b01#2 ++ low) : BitVec 32).extractLsb' 0 2 = low := by
    apply BitVec.eq_of_getLsbD_eq
    intro i hi
    simp only [BitVec.getLsbD_extractLsb', BitVec.getLsbD_append]
    interval_cases i <;> simp
  have hop : ∀ low : BitVec 2, ((0b01#2 ++ low).setWidth 32 ≠ 0x0#32) ∧ ((0b01#2 ++ low).setWidth 32 ≠ 0x1#32) ∧
      ((0b01#2 ++ low).setWidth 32 ≠ 0x2#32) ∧ ((0b01#2 ++ low).setWidth 32 ≠ 0x3#32) ∧
      ((0b01#2 ++ low : BitVec 4).setWidth 32 &&& 0xC#32) = 0x4#32 := by decide
  obtain ⟨h0, h1, h2, h3, h4⟩ := hop low
  simp only [decode, encode, Instr.format, Instr.commandWord, decodeCommandBytes_wordImage, decodeCommand]
  rw [h.2.1, h.2.2, h.1, hl, h4]
  simp [h0, h1, h2, h3]

theorem cmdReserved8F (low : BitVec 3) (rest : BitVec 28) : Statement (.cmdReserved8F low rest) := fun _ _ _ => by
  have h := command_parts rest (0b1#1 ++ low)
  have hl : (rest ++ (0b1#1 ++ low) : BitVec 32).extractLsb' 0 3 = low := by
    apply BitVec.eq_of_getLsbD_eq
    intro i hi
    simp only [BitVec.getLsbD_extractLsb', BitVec.getLsbD_append]
    interval_cases i <;> simp
  have hop : ∀ low : BitVec 3, ((0b1#1 ++ low).setWidth 32 ≠ 0x0#32) ∧ ((0b1#1 ++ low).setWidth 32 ≠ 0x1#32) ∧
      ((0b1#1 ++ low).setWidth 32 ≠ 0x2#32) ∧ ((0b1#1 ++ low).setWidth 32 ≠ 0x3#32) ∧
      ((0b1#1 ++ low : BitVec 4).setWidth 32 &&& 0xC#32) ≠ 0x4#32 := by decide
  obtain ⟨h0, h1, h2, h3, h4⟩ := hop low
  simp only [decode, encode, Instr.format, Instr.commandWord, decodeCommandBytes_wordImage, decodeCommand]
  rw [h.2.1, h.2.2, h.1, hl]
  simp [h0, h1, h2, h3, h4]

theorem send : Statement .send := fun _ _ h => absurd h (by decide)

theorem rxData (f : DataFrame) : Statement (.rxData f) := fun _ _ _ => by
  refine decodeImage_imageWith _ _ _ ?_
  simp [selectedInstrs, busInstrs, dataInstrs, ackInstrs, timeoutPattern, lateInstrs, rowMatches, Instr.ccw,
    Instr.sample, Sample.idle]

theorem rxAccept (f : DataFrame) : Statement (.rxAccept f) := fun _ _ h => absurd h (by simp [Instr.ownsPattern])

theorem rxDuplicate (f : DataFrame) : Statement (.rxDuplicate f) := fun _ _ h =>
  absurd h (by simp [Instr.ownsPattern])

theorem rxDrop (f : DataFrame) : Statement (.rxDrop f) := fun _ _ h => absurd h (by simp [Instr.ownsPattern])

theorem rxAck (a : AckFrame) : Statement (.rxAck a) := fun _ _ _ => by
  refine decodeImage_imageWith _ _ _ ?_
  simp [selectedInstrs, busInstrs, dataInstrs, ackInstrs, timeoutPattern, lateInstrs, rowMatches, Instr.ccw,
    Instr.sample, Sample.idle]

theorem ackAccept (a : AckFrame) : Statement (.ackAccept a) := fun _ _ h => absurd h (by simp [Instr.ownsPattern])

theorem ackDiscard (a : AckFrame) : Statement (.ackDiscard a) := fun _ _ h =>
  absurd h (by simp [Instr.ownsPattern])

theorem timeoutRetransmit : Statement .timeoutRetransmit := fun _ _ _ => by decide

theorem timeoutFail : Statement .timeoutFail := fun _ _ h => absurd h (by decide)

theorem tick : Statement .tick := fun _ _ _ => by decide

theorem lossData : Statement .lossData := fun _ _ _ => by decide

theorem lossAck : Statement .lossAck := fun _ _ _ => by decide

end Sys2Proof.Laws.RoundTrip
end

