-- ==== Sys2Proof/Machine/HostScript.lean ====
section
/-! DEFINITION. The host script notation (30_encoding R99) and the pseudo-instructions (R100), as script
entries. Each function gives the entries of the cycles it stands for, in order. -/

namespace Sys2Proof.Machine

/-- A script entry; a frame emitted in its cycle is delivered next, as far as the channel's configuration allows. -/
def entry (I : Sample) : Stimulus := ⟨I, .next, .next⟩

/-- The channel's choice for a data frame emitted in this cycle (44_network_path R216). -/
def withDataDraw (st : Stimulus) (d : Draw) : Stimulus := { st with dataDraw := d }

/-- The channel's choice for an ack emitted in this cycle (R216). -/
def withAckDraw (st : Stimulus) (d : Draw) : Stimulus := { st with ackDraw := d }

/-- `WR <addr>, <data>` (R99). -/
def scriptWr (addr : Half) (data : Word) : Stimulus := entry (Instr.regWrite addr data).sample

/-- `RD <addr>` (R99). -/
def scriptRd (addr : Half) : Stimulus := entry (Instr.regRead addr).sample

/-- `--`: no bus request (R99). -/
def scriptNone : Stimulus := .idle

/-- `| tick` (R99). -/
def withTick (st : Stimulus) : Stimulus := { st with sample := { st.sample with tick := true } }

/-- `| dlost` (R99). -/
def withDataLost (st : Stimulus) : Stimulus :=
  { st with sample := { st.sample with dataLost := true } }

/-- `| alost` (R99). -/
def withAckLost (st : Stimulus) : Stimulus := { st with sample := { st.sample with ackLost := true } }

/-- `| rxd=<frame>` (R99). -/
def withData (st : Stimulus) (f : DataFrame) : Stimulus :=
  { st with sample := { st.sample with rxdValid := true, rxdFrame := f } }

/-- `| rxa=<frame>` (R99). -/
def withAck (st : Stimulus) (a : AckFrame) : Stimulus :=
  { st with sample := { st.sample with rxaValid := true, rxaFrame := a } }

/-- A cycle with `rst_n` = 0 (R260). -/
def scriptReset : Stimulus := entry { Sample.idle with rstN := false }

/-- Byte `k` of a message; missing bytes are 0 (R100). -/
def messageByte (bytes : List Byte) (k : Nat) : Byte := bytes.getD k 0

/-- `LOADMSG` (R100): the words of the message into the TX_BUF window, then its length into MSG_LEN. -/
def scriptLoadMsg (bytes : List Byte) : List Stimulus :=
  ((List.range ((bytes.length + 3) / 4)).map fun w =>
      scriptWr (BitVec.ofNat 16 (0x1000 + 4 * w))
        (wordOfLanes (messageByte bytes (4 * w)) (messageByte bytes (4 * w + 1))
          (messageByte bytes (4 * w + 2)) (messageByte bytes (4 * w + 3))))
    ++ [scriptWr 0x010 (BitVec.ofNat 32 bytes.length)]

/-- `START` (R100). -/
def scriptStart : Stimulus := scriptWr 0x000 0x1

/-- `CLRSTATS` (R100). -/
def scriptClrStats : Stimulus := scriptWr 0x000 0x2

/-- `NOPCMD` (R100). -/
def scriptNopCmd : Stimulus := scriptWr 0x000 0x0

/-- `SETCFG r, p, i` (R100): `(i<<2) | (p<<1) | r`. -/
def scriptSetCfg (r p i : Bool) : Stimulus :=
  scriptWr 0x004 (0#29 ++ BitVec.ofBool i ++ BitVec.ofBool p ++ BitVec.ofBool r)

/-- `ACKDONE` (R100). -/
def scriptAckDone : Stimulus := scriptWr 0x008 0x8

/-- `CLRCMDERR` (R100). -/
def scriptClrCmdErr : Stimulus := scriptWr 0x008 0x20

/-- `ACKRX` (R100). -/
def scriptAckRx : Stimulus := scriptWr 0x014 0x80000000

/-- One read of `POLLDONE` (R100); how often it repeats depends on what it reads. -/
def scriptPollDone : Stimulus := scriptRd 0x008

/-- A cycle with a tick and nothing else, as under total loss (41_transmitter R142). -/
def quietTick : Stimulus := withTick .idle

end Sys2Proof.Machine
end

