-- ==== Sys2Proof/Safety.lean ====
section
/-! DEFINITION. What counts as a safe state: the invariant that every step keeps (10_state R22, R230, R231,
41_transmitter R132, R134, R141, 20_memory R61, 44_network_path R217), and views of a state that statements use. -/

namespace Sys2Proof.Machine

/-- A bus address of an existing buffer byte (20_memory R61, R65). -/
def inBuffers (p : Params) (a : Nat) : Bool :=
  (decide (0x1000 ≤ a) && decide (a < 0x1000 + p.maxDataSize))
    || (decide (0x2000 ≤ a) && decide (a < 0x2000 + p.maxDataSize))

/-- What holds of the frame in flight while the transmitter waits for its ack: it is a valid frame of a legal
message with the current sequence number, and no outcome is shown (R131, R133). -/
structure State.Waiting (s : State) : Prop where
  frameValid : s.txf.valid s.params = true
  frameSeq : s.txf.seq = s.txSeq.setWidth 8
  lenLow : 1 ≤ s.txf.len.toNat
  lenHigh : s.txf.len.toNat < s.params.maxDataSize
  notDone : s.status.done = false
  notSuccess : s.status.success = false
  noErr : s.status.err = 0

/-- The invariant of the block between cycles. -/
structure State.Inv (s : State) : Prop where
  /-- the parameters lie in the ranges of R7 -/
  legal : s.params.legal = true
  /-- the memory is in its canonical form -/
  memCanonical : Memory.wf s.mem = true
  /-- every listed byte exists (R65) -/
  memInBuffers : (s.mem.all fun c => inBuffers s.params c.1) = true
  /-- RETRY ≤ MAX_RETRIES (R22) -/
  retryBound : s.retry.toNat ≤ s.params.maxRetries
  /-- TIMER never passes TIMEOUT_TICKS + 1, so it never saturates (R141) -/
  timerBound : s.timer.toNat ≤ s.params.timeoutTicks + 1
  /-- codes 0xB to 0xF are never written (R230), and InvalidPayload is unreachable (R132) -/
  condKnown : s.cond.toNat ≤ 0xA ∧ s.cond ≠ 0x3
  /-- codes 0x5 to 0xF are never written (R231), and InvalidPayload is unreachable (R132) -/
  errKnown : s.status.err.toNat ≤ 0x4 ∧ s.status.err ≠ 0x3
  /-- ERR is 0 after success (R31) -/
  successNoErr : s.status.success = true → s.status.err = 0
  /-- an accepted frame fits the buffer (R161, R116) -/
  rxLenBound : s.rxLen.toNat ≤ s.params.maxDataSize
  /-- `restarted` lives for one cycle only (R24) -/
  notRestarted : s.restarted = false
  /-- TXF has MAX_DATA_SIZE payload bytes (R25) -/
  txfFits : s.txf.payload.length = s.params.maxDataSize
  /-- the channel keeps its contract (44_network_path R211, R214, R217) -/
  chanLawful : s.chan.lawful = true
  /-- the frame in flight (R131) -/
  waiting : s.txState = .awaitingAck → s.Waiting

/-- The bytes of both buffers read the same. -/
def SameBuffers (s t : State) : Prop := ∀ b k, t.bufByte b k = s.bufByte b k

/-- A step that completes. -/
def StepsTo (s t : State) : Prop := step s = .next t

/-- The head of the script in the next cycle is a cycle out of reset. -/
def State.running (s : State) : Bool := s.sample.rstN

end Sys2Proof.Machine
end

