-- ==== Sys2Proof/Certificates/Slice0/Obligations.lean ====
section
/-! DEFINITION. The statements for the provers. A statement that gives a next state as `{ s with … }` says the
result and the whole frame at once: every field it does not list is unchanged. -/

open Sys2Proof Sys2Proof.Machine

/-! ### The step -/

/-- A step runs the decoded operation (30_encoding R92, R95): when the cycle's input sample is that of the image of
one operation `i`, the step is `exec i` on the state at the start of the cycle (script advanced, `restarted` false,
outputs 0 but `irq_o`), with the timeout check of sub-step 4 after an operation of sub-steps 1 to 3 and before one of
sub-steps 5 and 6; then `restarted` ends and the channel takes the emissions. TIMEOUT_RETRANSMIT has no port:
sub-step 4 selects it from the state. The byte image (log 7), the script (log 5) and `restarted` cleared at the end
(log 12) are the model's. -/
def Obligations.StepRunsDecodedInstruction : Prop :=
  ∀ (s : State) (bs : List Byte) (i : Instr),
    s.params.legal = true → i.wf s.params = true → decode .ccw bs = .ok i → i ≠ .timeoutRetransmit →
    s.sample = sampleOfImage bs →
    let s0 : State := { s with
      script := s.script.tail, restarted := false,
      out := ⟨0, false, none, none, false, s.status.done && s.cfg.irqEn⟩ }
    let finish : State → Host.Outcome State Fault Refusal := fun t => .next { t with
      restarted := false, chan := s.chan.after s.stimulus t.out }
    (i ≠ .tick → i ≠ .lossData → i ≠ .lossAck →
      step s = andThen (exec i s0) fun t => andThen (runInstrs t.timeoutInstrs t) finish) ∧
    (i = .tick ∨ i = .lossData ∨ i = .lossAck →
      step s = andThen (runInstrs s0.timeoutInstrs s0) fun t => andThen (exec i t) finish)

/-- A command word written to CMD runs its command (30_encoding R84, R85; 43_host_commands R191): when the cycle's
input sample writes the word of a command row to 0x000, the step is `exec` of that row's operation, as in
`StepRunsDecodedInstruction`. -/
def Obligations.StepRunsDecodedCommand : Prop :=
  ∀ (s : State) (w : Word) (i : Instr),
    s.params.legal = true → decode .cmd (wordImage w) = .ok i → s.sample = commandSample w →
    let s0 : State := { s with
      script := s.script.tail, restarted := false,
      out := ⟨0, false, none, none, false, s.status.done && s.cfg.irqEn⟩ }
    step s = andThen (exec i s0) fun t => andThen (runInstrs t.timeoutInstrs t) fun u => .next { u with
      restarted := false, chan := s.chan.after s.stimulus u.out }

/-- The order of a cycle (30_encoding R95): with `rst_n` = 0 the reset state; else `restarted` false, outputs 0
but `irq_o` from S, then bus request, data frame, ack frame, timeout, tick, data loss, ack loss, each operation
on the state the one before left. The next `epoch` of a reset (log 4) and `restarted` cleared at the end (log 12)
are the model's. -/
def Obligations.CycleRunsSubStepsInOrder : Prop :=
  ∀ (I : Sample) (s : State),
    (I.rstN = false → cycle I s = .next (State.resetWith s.params (s.epoch + 1) s.chan s.script)) ∧
    (I.rstN = true →
      let s0 : State := { s with
        restarted := false, out := ⟨0, false, none, none, false, s.status.done && s.cfg.irqEn⟩ }
      let when : Bool → Instr → State → Host.Outcome State Fault Refusal :=
        fun b i t => if b then exec i t else .next t
      cycle I s =
        andThen (when I.busValid (if I.busWe then .regWrite I.busAddr I.busWdata else .regRead I.busAddr) s0)
        fun t1 => andThen (when I.rxdValid (.rxData I.rxdFrame) t1)
        fun t2 => andThen (when I.rxaValid (.rxAck I.rxaFrame) t2)
        fun t3 => andThen
          (if t3.txState = .awaitingAck ∧ t3.params.timeoutTicks < t3.timer.toNat then
            exec (if t3.retry.toNat < t3.params.maxRetries then .timeoutRetransmit else .timeoutFail) t3
          else .next t3)
        fun t4 => andThen (when I.tick .tick t4)
        fun t5 => andThen (when I.dataLost .lossData t5)
        fun t6 => andThen (when I.ackLost .lossAck t6)
        fun t7 => .next { t7 with restarted := false })

/-- Parameter values outside the ranges of 00_scope R7 are refused. -/
def Obligations.StepRefusesIllegalParameters : Prop :=
  ∀ s : State,
    ¬(2 ≤ s.params.maxDataSize ∧ s.params.maxDataSize ≤ 4096 ∧ s.params.maxRetries ≤ 255 ∧
      s.params.timeoutTicks ≤ 2 ^ 32 - 2) →
    step s = .refused .parameterOutOfRange

/-- With legal parameters every step completes: the block takes no trap (60_exceptions R233), and every cycle
of it is one step (70_reset R272). -/
def Obligations.EveryLegalStepCompletes : Prop :=
  ∀ s : State,
    2 ≤ s.params.maxDataSize → s.params.maxDataSize ≤ 4096 → s.params.maxRetries ≤ 255 →
    s.params.timeoutTicks ≤ 2 ^ 32 - 2 → ∃ t, step s = .next t

/-- A cycle with `rst_n` = 0 (70_reset R260): whatever the other inputs, every state element takes its reset
value and every output is 0. The unspecified bytes are the free values of the next reset (the model's own
`epoch`, log 4): nothing is said of them. The model's choices in the conclusion: the parameters stay (log 2), no
buffer byte is listed (log 15), the script advances (log 5), `restarted` is false (log 12). -/
def Obligations.ResetCycleGivesResetValues : Prop :=
  ∀ s : State, s.params.legal = true → s.sample.rstN = false →
    ∃ t, step s = .next t ∧ t.params = s.params ∧
      t.txState = .idle ∧ t.txSeq = 0 ∧ t.retry = 0 ∧ t.timer = 0 ∧
      t.txf.type = 0 ∧ t.txf.seq = 0 ∧ t.txf.len = 0 ∧ t.txf.csum = 0 ∧
      t.txf.payload.length = s.params.maxDataSize ∧
      t.rxState = .awaitingData ∧ t.rxExp = 0 ∧ t.rxLen = 0 ∧ t.rxSeq = 0 ∧ t.rxValid = false ∧ t.msgLen = 0 ∧
      t.cfg = ⟨false, false, false⟩ ∧ t.status = ⟨false, false, false, 0⟩ ∧ t.cond = 0 ∧
      t.stats = ⟨0, 0, 0, 0, 0, 0, 0, 0⟩ ∧ t.time = 0 ∧ t.mem = [] ∧
      t.out = ⟨0, false, none, none, false, false⟩ ∧ t.restarted = false ∧ t.script = s.script.tail

/-! ### The invariant -/

/-- The state after reset meets the invariant, for every legal parameter value and every channel that keeps its
contract, and with it `State.reset`, whose parameters are the values of log 1 and whose channel is that of log 10
(DESIGN CHOICE both). -/
def Obligations.ResetMeetsInvariant : Prop :=
  (∀ (p : Params) (epoch : Nat) (chan : Channel) (script : List Stimulus),
    p.legal = true → chan.lawful = true → (State.resetWith p epoch chan script).Inv) ∧
  State.reset.Inv

/-- Every step keeps the invariant `State.Inv` of Safety: legal parameters, memory in canonical form inside the
buffers, RETRY ≤ MAX_RETRIES (10_state R22), TIMER ≤ TIMEOUT_TICKS + 1 (41_transmitter R141), only the codes of
60_exceptions R230 and R231 with InvalidPayload unreachable (R132), ERR = 0 after success, RX_LEN ≤
MAX_DATA_SIZE, in AWAITING_ACK a valid TXF of a legal message with the sequence number TX_SEQ and no outcome
shown, and a channel whose frames in flight have a fate its loss law allows and can still meet it
(44_network_path R211, R214, R217). The canonical form (log 15), `restarted` between cycles (log 12) and the fate held
in the slot (log 10) are the model's. -/
def Obligations.StepKeepsInvariant : Prop :=
  ∀ s t : State, s.Inv → step s = .next t → t.Inv

/-- The parameters are constants (10_state R34): no step changes them. -/
def Obligations.ParametersAreConstant : Prop :=
  ∀ s t : State, step s = .next t → t.params = s.params

/-! ### Encodings -/

/-- Decode and encode agree on every well-formed operation whose row owns its pattern of the table. The byte layout of
a CCW with its operands is the model's (log 7, DESIGN CHOICE), and so is which row owns a pattern that several rows
share (log 8): the seven other operations have no word of their own. -/
def Obligations.DecodeEncodeAgree : Prop :=
  ∀ (i : Instr) (p : Params), i.wf p = true → i.ownsPattern = true → decode i.format (encode i) = .ok i

/-- A few words, written out: the CCW byte and the command words are the spec's (30_encoding R84, R85, R91, R92); the
places of the operand bytes after the CCW (log 7) and the two rejections by name are the model's choice. -/
def Obligations.SpecWordsDecode : Prop :=
  decode .ccw [0x01, 0x08, 0x00] = .ok (.regRead 0x0008) ∧
  decode .ccw [0x03, 0x10, 0x00, 0x03, 0x00, 0x01, 0x00] = .ok (.regWrite 0x0010 0x00010003) ∧
  decode .cmd [0x01, 0x00, 0x00, 0x00] = .ok (.start 0) ∧
  decode .cmd [0xF2, 0xFF, 0xFF, 0xFF] = .ok (.clrStats 0xFFFFFFF) ∧
  decode .cmd [0x07, 0x00, 0x00, 0x00] = .ok (.cmdReserved47 3 0) ∧
  decode .cmd [0x0F, 0x00, 0x00, 0x00] = .ok (.cmdReserved8F 7 0) ∧
  decode .ccw [0x08, 0, 0, 0, 0, 0, 0, 0x02, 0x01, 0x03] = .ok (.rxAck ⟨0x02, 0x01, 0x00000003⟩) ∧
  decode .ccw [0x10] = .ok .tick ∧ decode .ccw [0x20] = .ok .lossData ∧ decode .ccw [0x40] = .ok .lossAck ∧
  decode .ccw [0x00] = .error .noOperation ∧ decode .ccw [0x30] = .error .severalOperations

/-- The record fields of an input port are ignored while its valid bit is 0 (30_encoding R87): two samples that
differ only in such fields give the same cycle. -/
def Obligations.IgnoredPortFieldsHaveNoEffect : Prop :=
  ∀ (I J : Sample) (s : State),
    J.rstN = I.rstN → J.busValid = I.busValid → J.rxdValid = I.rxdValid → J.rxaValid = I.rxaValid →
    J.tick = I.tick → J.dataLost = I.dataLost → J.ackLost = I.ackLost →
    (I.busValid = true → J.busWe = I.busWe ∧ J.busAddr = I.busAddr) →
    (I.busValid = true → I.busWe = true → J.busWdata = I.busWdata) →
    (I.rxdValid = true → J.rxdFrame = I.rxdFrame) → (I.rxaValid = true → J.rxaFrame = I.rxaFrame) →
    cycle J s = cycle I s

/-! ### Frames and checksums -/

/-- CSUM is the sum of the bytes as numbers 0 to 255, modulo 2^32; the empty sequence gives 0
(40_frame_checksum R110). -/
def Obligations.ChecksumIsTheByteSum : Prop :=
  ∀ bs : List Byte, (checksum bs).toNat = (bs.map BitVec.toNat).sum % 2 ^ 32

/-- MKDATA (R113, R114): up to MAX_DATA_SIZE bytes it builds the record of R113, zero-filled, whose checksum
covers type, seq, len low byte first and the bytes; the record is valid (R121). Above MAX_DATA_SIZE it builds
none. -/
def Obligations.MkDataBuildsValidFrames : Prop :=
  ∀ (p : Params) (seq : Bit) (bytes : List Byte), p.legal = true →
    (bytes.length ≤ p.maxDataSize →
      ∃ f, mkData p seq bytes = some f ∧ f.type = 0x01 ∧ f.seq = seq.setWidth 8 ∧ f.len.toNat = bytes.length ∧
        f.payload = bytes ++ List.replicate (p.maxDataSize - bytes.length) 0 ∧
        f.csum = checksum ([0x01, seq.setWidth 8, BitVec.ofNat 8 (bytes.length % 256),
          BitVec.ofNat 8 (bytes.length / 256)] ++ bytes) ∧
        f.valid p = true) ∧
    (p.maxDataSize < bytes.length → mkData p seq bytes = none)

/-- MKACK (R115): only two ack frames exist for legal numbers, and both are valid. -/
def Obligations.MkAckBuildsTheTwoAcks : Prop :=
  ∀ n : Byte,
    (mkAck n = ⟨0x02, n, 0x2 + n.setWidth 32⟩) ∧
    (n.toNat ≤ 1 → (mkAck n).valid = true ∧ (mkAck n = ⟨0x02, 0, 0x2⟩ ∨ mkAck n = ⟨0x02, 1, 0x3⟩))

/-- Every single-bit error in a valid frame is detected, whichever field the bit is in: type, seq, len, csum,
or a payload byte below len (R121). -/
def Obligations.SingleBitErrorsAreDetected : Prop :=
  ∀ (p : Params) (f : DataFrame), p.legal = true → f.fits p = true → f.valid p = true →
    (∀ k, k < 8 → ({ f with type := f.type ^^^ BitVec.twoPow 8 k } : DataFrame).valid p = false) ∧
    (∀ k, k < 8 → ({ f with seq := f.seq ^^^ BitVec.twoPow 8 k } : DataFrame).valid p = false) ∧
    (∀ k, k < 16 → ({ f with len := f.len ^^^ BitVec.twoPow 16 k } : DataFrame).valid p = false) ∧
    (∀ k, k < 32 → ({ f with csum := f.csum ^^^ BitVec.twoPow 32 k } : DataFrame).valid p = false) ∧
    (∀ j k, j < f.len.toNat → k < 8 →
      ({ f with payload := f.payload.set j (f.payload.getD j 0 ^^^ BitVec.twoPow 8 k) } : DataFrame).valid p
        = false)

/-- Payload bytes at index len and above change nothing any rule reads (R121, R118; 30_encoding R80): two records
that differ only there have the same validity and the same payload, and RX_DATA does the same with both. -/
def Obligations.PayloadBeyondLenIsIgnored : Prop :=
  ∀ (p : Params) (f : DataFrame) (payload : List Byte),
    (∀ k, k < f.len.toNat → payload.getD k 0 = f.payload.getD k 0) →
    ({ f with payload := payload } : DataFrame).valid p = f.valid p ∧
    ({ f with payload := payload } : DataFrame).body = f.body ∧
    ∀ s : State, exec (.rxData { f with payload := payload }) s = exec (.rxData f) s

/-- Errors that keep the byte sum are not detected: a valid frame whose payload bytes are reordered stays valid
(R121). -/
def Obligations.ReorderedPayloadIsUndetected : Prop :=
  ∀ (p : Params) (f g : DataFrame),
    f.valid p = true → g.type = f.type → g.seq = f.seq → g.len = f.len → g.csum = f.csum →
    g.body.Perm f.body → g.valid p = true

/-! ### Transmitter -/

/-- START (41_transmitter R131): the checks in the order Busy, EmptyMessage, MessageTooLarge, and the accepted
message. The accepted frame is the record of R89 and R113: sequence number TX_SEQ, or 0 with PERSIST = 0; TX_BUF
[0, MSG_LEN); zero fill; checksum of its image; it is emitted, kept in TXF, and nothing but the listed fields
changes. -/
def Obligations.StartFollowsItsChecks : Prop :=
  ∀ (s : State) (ignored : BitVec 28), s.params.legal = true →
    (s.txState = .awaitingAck →
      exec (.start ignored) s = .next { s with status := { s.status with cmdErr := true }, cond := 0x8 }) ∧
    (s.txState = .idle → s.msgLen = 0 →
      exec (.start ignored) s = .next { s with
        status := { s.status with done := true, success := false, err := 0x1 }, cond := 0x1 }) ∧
    (s.txState = .idle → s.params.maxDataSize ≤ s.msgLen.toNat →
      exec (.start ignored) s = .next { s with
        status := { s.status with done := true, success := false, err := 0x2 }, cond := 0x2 }) ∧
    (s.txState = .idle → 1 ≤ s.msgLen.toNat → s.msgLen.toNat < s.params.maxDataSize →
      ∃ f : DataFrame,
        exec (.start ignored) s = .next { s with
          txSeq := if s.cfg.persist then s.txSeq else 0
          rxExp := if s.cfg.persist then s.rxExp else 0
          retry := 0
          status := { s.status with done := false, success := false, err := 0 }
          cond := 0x0
          stats := { s.stats with startTime := s.time, framesSent := s.stats.framesSent + 1 }
          txf := f
          out := { s.out with txd := some f }
          timer := 0
          restarted := true
          txState := .awaitingAck } ∧
        f.type = 0x01 ∧ f.seq = (if s.cfg.persist then s.txSeq else 0 : Bit).setWidth 8 ∧ f.len = s.msgLen ∧
        f.payload.length = s.params.maxDataSize ∧
        (∀ k, k < s.msgLen.toNat → f.payload.getD k 0 = s.bufByte .tx k) ∧
        (∀ k, s.msgLen.toNat ≤ k → f.payload.getD k 0 = 0) ∧
        f.valid s.params = true)

/-- SEND (R133): the frame in TXF is emitted, the timer starts, AWAITING_ACK, FRAMES_SENT counts; nothing else
changes. -/
def Obligations.SendStartsTheTimer : Prop :=
  ∀ s : State,
    exec .send s = .next { s with
      out := { s.out with txd := some s.txf }
      timer := 0
      restarted := true
      txState := .awaitingAck
      stats := { s.stats with framesSent := s.stats.framesSent + 1 } }

/-- An ack presented on `rxa` (R134, R135, R136). It is accepted exactly in AWAITING_ACK, with type 0x02, a
number equal to TX_SEQ and the checksum of its two bytes; else it is discarded and only COND changes.
ACKS_RECEIVED counts either way in RX_ACK. ACK_ACCEPT and ACK_DISCARD are RX_ACK's two branches, each under its
guard. -/
def Obligations.AcksAreAcceptedOrDiscarded : Prop :=
  ∀ (s : State) (a : AckFrame),
    (s.txState = .awaitingAck ∧ a.type = 0x02 ∧ a.ack = s.txSeq.setWidth 8 ∧ a.csum = 0x2 + a.ack.setWidth 32 →
      exec (.rxAck a) s = .next { s with
        txState := .idle
        txSeq := s.txSeq ^^^ 1
        retry := 0
        stats := { s.stats with acksReceived := s.stats.acksReceived + 1, endTime := s.time }
        status := { s.status with done := true, success := true, err := 0 } } ∧
      exec (.ackAccept a) s = .next { s with
        txState := .idle
        txSeq := s.txSeq ^^^ 1
        retry := 0
        stats := { s.stats with endTime := s.time }
        status := { s.status with done := true, success := true, err := 0 } }) ∧
    (¬(s.txState = .awaitingAck ∧ a.type = 0x02 ∧ a.ack = s.txSeq.setWidth 8 ∧
        a.csum = 0x2 + a.ack.setWidth 32) →
      exec (.rxAck a) s = .next { s with
        stats := { s.stats with acksReceived := s.stats.acksReceived + 1 }, cond := 0x6 } ∧
      exec (.ackDiscard a) s = .next { s with cond := 0x6 })

/-- The timeout (R137, R138, R139), a strict comparison in AWAITING_ACK: with budget left TXF is emitted again
unchanged, RETRY and RETRANSMISSIONS count and the timer restarts; without, the message fails, TX_SEQ and RETRY
stay and no frame is emitted. Sub-step 4 selects the one or the other, and nothing when the timer has not
expired. -/
def Obligations.TimeoutRetransmitsOrFails : Prop :=
  ∀ s : State,
    (s.txState = .awaitingAck ∧ s.params.timeoutTicks < s.timer.toNat ∧ s.retry.toNat < s.params.maxRetries →
      runInstrs s.timeoutInstrs s = exec .timeoutRetransmit s ∧
      exec .timeoutRetransmit s = .next { s with
        retry := s.retry + 1
        stats := { s.stats with retransmissions := s.stats.retransmissions + 1 }
        out := { s.out with txd := some s.txf }
        timer := 0
        restarted := true
        cond := 0x7 }) ∧
    (s.txState = .awaitingAck ∧ s.params.timeoutTicks < s.timer.toNat ∧ s.params.maxRetries ≤ s.retry.toNat →
      runInstrs s.timeoutInstrs s = exec .timeoutFail s ∧
      exec .timeoutFail s = .next { s with
        txState := .idle
        stats := { s.stats with endTime := s.time }
        status := { s.status with done := true, success := false, err := 0x4 }
        cond := 0x4 }) ∧
    (¬(s.txState = .awaitingAck ∧ s.params.timeoutTicks < s.timer.toNat) →
      runInstrs s.timeoutInstrs s = .next s)

/-- TICK (R141): TIME counts modulo 2^32; TIMER counts only in AWAITING_ACK and not in the cycle of a (re)start,
and saturates at 2^32 - 1; nothing else changes. -/
def Obligations.TickCountsTimeAndTimer : Prop :=
  ∀ s : State,
    (s.txState = .awaitingAck ∧ s.restarted = false ∧ s.timer.toNat < 2 ^ 32 - 1 →
      ∃ v : Word, v.toNat = s.timer.toNat + 1 ∧
        exec .tick s = .next { s with time := s.time + 1, timer := v }) ∧
    (s.txState = .idle ∨ s.restarted = true ∨ s.timer.toNat = 2 ^ 32 - 1 →
      exec .tick s = .next { s with time := s.time + 1 })

/-- An ack and an expired timer in one cycle (R143), whatever else the cycle does: an accepted ack wins, the message
succeeds and no frame is sent again; when the ack is discarded, the timeout still fires in that cycle. -/
def Obligations.AckBeatsTimeout : Prop :=
  ∀ s t : State, step s = .next t → s.sample.rstN = true → s.sample.rxaValid = true →
    s.txState = .awaitingAck → s.params.timeoutTicks < s.timer.toNat →
    let command : Bool := s.sample.busValid && s.sample.busWe && (s.sample.busAddr == 0)
    let accepted : Prop := s.sample.rxaFrame.valid = true ∧ s.sample.rxaFrame.ack = s.txSeq.setWidth 8
    (accepted →
      t.txState = .idle ∧ t.status.done = true ∧ t.status.success = true ∧ t.status.err = 0 ∧
      t.out.txd = none ∧ t.stats.endTime = s.time ∧
      (command = false → t.stats.retransmissions = s.stats.retransmissions)) ∧
    (¬accepted → s.retry.toNat < s.params.maxRetries →
      t.txState = .awaitingAck ∧ t.cond = 0x7 ∧ t.out.txd = some s.txf ∧ t.timer = 0 ∧ t.retry = s.retry + 1 ∧
      (command = false → t.stats.retransmissions = s.stats.retransmissions + 1)) ∧
    (¬accepted → s.params.maxRetries ≤ s.retry.toNat →
      t.txState = .idle ∧ t.cond = 0x4 ∧ t.status.done = true ∧ t.status.success = false ∧ t.status.err = 0x4 ∧
      t.out.txd = none)

/-- At most one data frame is emitted in a cycle (30_encoding R97): when sub-steps 1 to 3 have (re)started the
timer, which only SEND does there, sub-step 4 does nothing. -/
def Obligations.NoTimeoutAfterSend : Prop :=
  ∀ (I : Sample) (s t : State),
    runInstrs I.earlyInstrs s.beginCycle = .next t → t.restarted = true → t.timeoutInstrs = []

/-- TXF is written only by an accepted START (10_state R25): a step out of reset that changes it writes OP 0x1
to CMD in IDLE with a legal MSG_LEN. -/
def Obligations.TxfChangesOnlyByAcceptedStart : Prop :=
  ∀ s t : State, step s = .next t → s.sample.rstN = true → t.txf ≠ s.txf →
    s.sample.busValid = true ∧ s.sample.busWe = true ∧ s.sample.busAddr = 0 ∧
      s.sample.busWdata.extractLsb' 0 4 = 0x1 ∧ s.txState = .idle ∧
      1 ≤ s.msgLen.toNat ∧ s.msgLen.toNat < s.params.maxDataSize

/-- Whatever a step emits on `txd` is TXF, so a retransmission repeats the frame bit for bit (20_memory R70,
R138), and the transmitter then waits for its ack or has had it. -/
def Obligations.EmittedDataFrameIsTxf : Prop :=
  ∀ (s t : State) (f : DataFrame), step s = .next t → t.out.txd = some f →
    f = t.txf ∧ (t.txState = .awaitingAck ∨ t.status.success = true)

/-- The writers of TX_SEQ and RX_EXP (10_state R21, R27), and what they write: out of reset TX_SEQ changes only by an
accepted START with PERSIST = 0 (to 0) and by an accepted ack (flip), RX_EXP only by such a START (to 0) and by an
accepted data frame (flip); START comes first in the cycle. -/
def Obligations.SequenceNumbersHaveTheirWriters : Prop :=
  ∀ s t : State, step s = .next t → s.sample.rstN = true →
    let started : Bool := s.txState == .idle && s.sample.busValid && s.sample.busWe && s.sample.busAddr == 0 &&
      s.sample.busWdata.extractLsb' 0 4 == 0x1 && decide (1 ≤ s.msgLen.toNat) &&
      decide (s.msgLen.toNat < s.params.maxDataSize)
    let cleared : Bool := started && !s.cfg.persist
    let txSeq : Bit := if cleared then 0 else s.txSeq
    let rxExp : Bit := if cleared then 0 else s.rxExp
    let acked : Bool := (s.txState == .awaitingAck || started) && s.sample.rxaValid && s.sample.rxaFrame.valid &&
      s.sample.rxaFrame.ack == txSeq.setWidth 8
    let accepted : Bool := s.sample.rxdValid && s.sample.rxdFrame.valid s.params &&
      s.sample.rxdFrame.seq == rxExp.setWidth 8
    t.txSeq = (if acked then txSeq ^^^ 1 else txSeq) ∧
    t.rxExp = (if accepted then rxExp ^^^ 1 else rxExp) ∧
    (acked = true → t.txState = .idle ∧ t.status.success = true) ∧
    (t.txSeq ≠ s.txSeq → cleared = true ∨ acked = true) ∧
    (t.rxExp ≠ s.rxExp → cleared = true ∨ accepted = true)

/-- The transitions of R130, whole cycles: from AWAITING_ACK the transmitter goes to IDLE exactly when the ack it
waits for is presented or the timer has expired with no budget left; from IDLE it goes to AWAITING_ACK exactly when
a legal START is written and the same cycle does not also present the new message's ack (60_exceptions R237 (b)). -/
def Obligations.TransmitterTransitions : Prop :=
  ∀ s t : State, step s = .next t → s.sample.rstN = true →
    let acks : Bit → Prop := fun seq =>
      s.sample.rxaValid = true ∧ s.sample.rxaFrame.valid = true ∧ s.sample.rxaFrame.ack = seq.setWidth 8
    let starts : Prop :=
      s.sample.busValid = true ∧ s.sample.busWe = true ∧ s.sample.busAddr = 0 ∧
        s.sample.busWdata.extractLsb' 0 4 = 0x1 ∧ 1 ≤ s.msgLen.toNat ∧ s.msgLen.toNat < s.params.maxDataSize
    (s.txState = .awaitingAck →
      (t.txState = .idle ↔
        acks s.txSeq ∨ (s.params.timeoutTicks < s.timer.toNat ∧ s.params.maxRetries ≤ s.retry.toNat))) ∧
    (s.txState = .idle →
      (t.txState = .awaitingAck ↔ starts ∧ ¬acks (if s.cfg.persist then s.txSeq else 0)))

/-- The outcome a host reads (60_exceptions R231, R232, R234): SUCCESS and ERR change, and DONE is set, only when a
message ends or an IDLE transmitter meets a START; a message that ends sets DONE, latches END_TIME, and shows either
success or PermanentFailure. -/
def Obligations.OutcomeChangesOnlyAtTermination : Prop :=
  ∀ s t : State, step s = .next t → s.sample.rstN = true →
    (t.status.success ≠ s.status.success ∨ t.status.err ≠ s.status.err ∨
        (t.status.done = true ∧ s.status.done = false) →
      (s.txState = .awaitingAck ∧ t.txState = .idle) ∨
      (s.txState = .idle ∧ s.sample.busValid = true ∧ s.sample.busWe = true ∧ s.sample.busAddr = 0 ∧
        s.sample.busWdata.extractLsb' 0 4 = 0x1)) ∧
    (s.txState = .awaitingAck → t.txState = .idle →
      t.status.done = true ∧ t.stats.endTime = s.time ∧
        ((t.status.success = true ∧ t.status.err = 0) ∨ (t.status.success = false ∧ t.status.err = 0x4)))

/-- An idle block is quiescent (70_reset R262; 60_exceptions R240): with no bus request and no event but a tick, a
step from IDLE changes TIME alone and emits nothing. The script and the channel's slots, which are not the block's,
go on. -/
def Obligations.IdleIsQuiescent : Prop :=
  ∀ (s : State) (tick : Bool),
    s.params.legal = true → s.txState = .idle → s.sample = { Sample.idle with tick := tick } →
    let out : Outputs := ⟨0, false, none, none, false, s.status.done && s.cfg.irqEn⟩
    step s = .next { s with
      time := s.time + (if tick then 1 else 0)
      restarted := false
      out := out
      chan := s.chan.after s.stimulus out
      script := s.script.tail }

/-! ### Receiver -/

/-- A data frame presented on `rxd` (R160): FRAMES_RECEIVED counts, and exactly one branch runs, chosen by the
validity of the frame and by RX_EXP. -/
def Obligations.RxDataSelectsOneBranch : Prop :=
  ∀ (s : State) (f : DataFrame),
    let t : State := { s with stats := { s.stats with framesReceived := s.stats.framesReceived + 1 } }
    (f.valid s.params = false → exec (.rxData f) s = exec (.rxDrop f) t) ∧
    (f.valid s.params = true → f.seq = s.rxExp.setWidth 8 → exec (.rxData f) s = exec (.rxAccept f) t) ∧
    (f.valid s.params = true → f.seq ≠ s.rxExp.setWidth 8 → exec (.rxData f) s = exec (.rxDuplicate f) t)

/-- The operations that R92 selects by a guard run only where it holds; elsewhere they change nothing. The second
half is the model's choice for an operation run on its own (log 9, DEDUCED from R92). -/
def Obligations.SelectedOperationsNeedTheirGuard : Prop :=
  ∀ (s : State) (f : DataFrame) (a : AckFrame),
    let accepted : Prop := s.txState = .awaitingAck ∧ a.valid = true ∧ a.ack = s.txSeq.setWidth 8
    let expired : Prop := s.txState = .awaitingAck ∧ s.params.timeoutTicks < s.timer.toNat
    (¬(f.valid s.params = true ∧ f.seq = s.rxExp.setWidth 8) → exec (.rxAccept f) s = .next s) ∧
    (¬(f.valid s.params = true ∧ f.seq ≠ s.rxExp.setWidth 8) → exec (.rxDuplicate f) s = .next s) ∧
    (f.valid s.params = true → exec (.rxDrop f) s = .next s) ∧
    (¬accepted → exec (.ackAccept a) s = .next s) ∧
    (accepted → exec (.ackDiscard a) s = .next s) ∧
    (¬(expired ∧ s.retry.toNat < s.params.maxRetries) → exec .timeoutRetransmit s = .next s) ∧
    (¬(expired ∧ s.params.maxRetries ≤ s.retry.toNat) → exec .timeoutFail s = .next s)

/-- A valid frame with the expected number (42_receiver R160, R161): the payload lands in RX_BUF [0, len) and no
other buffer byte changes; RX_LEN, RX_SEQ, RX_VALID, the delivery pulse, the ack of R115, ACKS_SENT and RX_EXP
follow; nothing else changes. RX_DATA also counts FRAMES_RECEIVED. -/
def Obligations.ExpectedFrameIsAccepted : Prop :=
  ∀ (s : State) (f : DataFrame), s.params.legal = true → f.valid s.params = true →
    f.seq = s.rxExp.setWidth 8 →
    ∃ t, exec (.rxAccept f) s = .next t ∧
      t = { s with
        mem := t.mem
        rxLen := f.len
        rxSeq := s.rxExp
        rxValid := true
        out := { s.out with rxDeliver := true, txa := some ⟨0x02, f.seq, 0x2 + f.seq.setWidth 32⟩ }
        stats := { s.stats with acksSent := s.stats.acksSent + 1 }
        rxExp := s.rxExp ^^^ 1 } ∧
      (∀ k, k < f.len.toNat → t.bufByte .rx k = f.payload.getD k 0) ∧
      (∀ k, f.len.toNat ≤ k → t.bufByte .rx k = s.bufByte .rx k) ∧
      (∀ k, t.bufByte .tx k = s.bufByte .tx k) ∧
      exec (.rxData f) s = .next { t with
        stats := { t.stats with framesReceived := s.stats.framesReceived + 1 } }

/-- A valid frame with the other number (R160, R162): discarded, with the ack sent again only if
REACK_DUP = 1. -/
def Obligations.OtherFrameIsADuplicate : Prop :=
  ∀ (s : State) (f : DataFrame), f.valid s.params = true → f.seq ≠ s.rxExp.setWidth 8 →
    (s.cfg.reackDup = false →
      exec (.rxDuplicate f) s = .next { s with cond := 0xA } ∧
      exec (.rxData f) s = .next { s with
        cond := 0xA, stats := { s.stats with framesReceived := s.stats.framesReceived + 1 } }) ∧
    (s.cfg.reackDup = true →
      exec (.rxDuplicate f) s = .next { s with
        cond := 0xA
        out := { s.out with txa := some ⟨0x02, f.seq, 0x2 + f.seq.setWidth 32⟩ }
        stats := { s.stats with acksSent := s.stats.acksSent + 1 } } ∧
      exec (.rxData f) s = .next { s with
        cond := 0xA
        out := { s.out with txa := some ⟨0x02, f.seq, 0x2 + f.seq.setWidth 32⟩ }
        stats := { s.stats with
          framesReceived := s.stats.framesReceived + 1, acksSent := s.stats.acksSent + 1 } })

/-- A malformed frame, or one whose checksum does not verify (R160, R163; 40_frame_checksum R116, R118): dropped
without an ack; only COND changes, and FRAMES_RECEIVED counts in RX_DATA. -/
def Obligations.BadFrameIsDropped : Prop :=
  ∀ (s : State) (f : DataFrame),
    (f.type ≠ 0x01 ∨ 1 < f.seq.toNat ∨ s.params.maxDataSize < f.len.toNat ∨ f.csum ≠ checksum f.image) →
    exec (.rxDrop f) s = .next { s with cond := 0x5 } ∧
    exec (.rxData f) s = .next { s with
      cond := 0x5, stats := { s.stats with framesReceived := s.stats.framesReceived + 1 } }

/-- Only acceptance writes RX_BUF, RX_LEN and RX_SEQ (10_state R28): a step out of reset that changes one of them
presents a valid data frame and delivers it. -/
def Obligations.ReceiverStateChangesOnlyByAcceptance : Prop :=
  ∀ s t : State, step s = .next t → s.sample.rstN = true →
    (t.rxLen ≠ s.rxLen ∨ t.rxSeq ≠ s.rxSeq ∨ ∃ k, t.bufByte .rx k ≠ s.bufByte .rx k) →
    s.sample.rxdValid = true ∧ s.sample.rxdFrame.valid s.params = true ∧ t.out.rxDeliver = true ∧
      t.rxLen = s.sample.rxdFrame.len

/-- An ack the block emits answers the data frame of its cycle and is MKACK(0) or MKACK(1) (42_receiver R164). -/
def Obligations.EmittedAckAnswersItsFrame : Prop :=
  ∀ (s t : State) (a : AckFrame), step s = .next t → t.out.txa = some a →
    s.sample.rxdValid = true ∧ a.ack = s.sample.rxdFrame.seq ∧ (a = ⟨0x02, 0, 0x2⟩ ∨ a = ⟨0x02, 1, 0x3⟩)

/-! ### Commands -/

/-- NOP changes nothing, whatever the ignored bits (43_host_commands R180). -/
def Obligations.NopHasNoEffect : Prop :=
  ∀ (s : State) (ignored : BitVec 28), exec (.nop ignored) s = .next s

/-- CLR_STATS clears the bank, in either transmitter state; TIME is not cleared (R181). -/
def Obligations.ClrStatsClearsTheBank : Prop :=
  ∀ (s : State) (ignored : BitVec 28),
    exec (.clrStats ignored) s = .next { s with stats := ⟨0, 0, 0, 0, 0, 0, 0, 0⟩ }

/-- A reserved command sets CMDERR and records BadCommand, with no other effect (R182). -/
def Obligations.ReservedCommandsAreRefused : Prop :=
  ∀ (s : State) (ignored : BitVec 28) (low2 : BitVec 2) (low3 : BitVec 3),
    let refused : Host.Outcome State Fault Refusal :=
      .next { s with status := { s.status with cmdErr := true }, cond := 0x9 }
    exec (.cmdReserved3 ignored) s = refused ∧ exec (.cmdReserved47 low2 ignored) s = refused ∧
      exec (.cmdReserved8F low3 ignored) s = refused

/-- CMD_WRITE (R191): a write of `w` to 0x000 runs the command of bits 3:0, after the bus response of a write. -/
def Obligations.CmdWriteRunsTheCommand : Prop :=
  ∀ (s : State) (w : Word),
    let t : State := { s with out := { s.out with busRdata := 0, busErr := false } }
    (w.extractLsb' 0 4 = 0x0 → exec (.regWrite 0x000 w) s = exec (.nop 0) t) ∧
    (w.extractLsb' 0 4 = 0x1 → exec (.regWrite 0x000 w) s = exec (.start 0) t) ∧
    (w.extractLsb' 0 4 = 0x2 → exec (.regWrite 0x000 w) s = exec (.clrStats 0) t) ∧
    (3 ≤ (w.extractLsb' 0 4).toNat → exec (.regWrite 0x000 w) s = exec (.cmdReserved3 0) t)

/-! ### Host bus -/

/-- A misaligned or unmapped request is a bus error (20_memory R63): bus_err_o = 1, bus_rdata_o = 0, and no state
changes; every other request answers bus_err_o = 0. -/
def Obligations.BusErrorsChangeNothing : Prop :=
  ∀ (s : State) (addr : Half) (w : Word),
    let a := addr.toNat
    let bad : Prop := a % 4 ≠ 0 ∨ (0x0048 ≤ a ∧ a ≤ 0x0FFF) ∨ 0x3000 ≤ a
    (bad →
      exec (.regRead addr) s = .next { s with out := { s.out with busRdata := 0, busErr := true } } ∧
      exec (.regWrite addr w) s = .next { s with out := { s.out with busRdata := 0, busErr := true } }) ∧
    (¬bad →
      (∃ t, exec (.regRead addr) s = .next t ∧ t.out.busErr = false) ∧
      (∃ t, exec (.regWrite addr w) s = .next t ∧ t.out.busErr = false ∧ t.out.busRdata = 0))

/-- A read changes nothing but the bus response (20_memory R64), and always completes. -/
def Obligations.ReadsHaveNoSideEffects : Prop :=
  ∀ (s : State) (addr : Half),
    ∃ (data : Word) (err : Bool),
      exec (.regRead addr) s = .next { s with out := { s.out with busRdata := data, busErr := err } }

/-- READVAL (R192), register by register and bit by bit, and byte by byte in the windows. -/
def Obligations.ReadReturnsTheMappedValue : Prop :=
  ∀ s : State,
    let reads : Half → Word → Prop := fun addr v =>
      exec (.regRead addr) s = .next { s with out := { s.out with busRdata := v, busErr := false } }
    reads 0x000 0 ∧
    (∃ v, reads 0x004 v ∧ v.getLsbD 0 = s.cfg.reackDup ∧ v.getLsbD 1 = s.cfg.persist ∧
      v.getLsbD 2 = s.cfg.irqEn ∧ v.extractLsb' 3 29 = 0) ∧
    (∃ v, reads 0x008 v ∧ v.getLsbD 0 = decide (s.txState = .awaitingAck) ∧ v.extractLsb' 1 1 = s.txSeq ∧
      v.extractLsb' 2 1 = s.rxExp ∧ v.getLsbD 3 = s.status.done ∧ v.getLsbD 4 = s.status.success ∧
      v.getLsbD 5 = s.status.cmdErr ∧ v.extractLsb' 6 2 = 0 ∧ v.extractLsb' 8 4 = s.status.err ∧
      v.extractLsb' 12 4 = 0 ∧ v.extractLsb' 16 8 = s.retry ∧ v.extractLsb' 24 8 = 0) ∧
    (∃ v, reads 0x00C v ∧ v.extractLsb' 0 4 = s.cond ∧ v.extractLsb' 4 28 = 0) ∧
    (∃ v, reads 0x010 v ∧ v.extractLsb' 0 16 = s.msgLen ∧ v.extractLsb' 16 16 = 0) ∧
    (∃ v, reads 0x014 v ∧ v.extractLsb' 0 16 = s.rxLen ∧ v.extractLsb' 16 1 = s.rxSeq ∧
      v.extractLsb' 17 14 = 0 ∧ v.getLsbD 31 = s.rxValid) ∧
    (s.params.legal = true →
      (∃ v, reads 0x018 v ∧ (v.extractLsb' 0 16).toNat = s.params.maxDataSize ∧
        (v.extractLsb' 16 8).toNat = s.params.maxRetries ∧ v.extractLsb' 24 8 = 0) ∧
      (∃ v, reads 0x01C v ∧ v.toNat = s.params.timeoutTicks)) ∧
    reads 0x020 s.stats.framesSent ∧ reads 0x024 s.stats.framesReceived ∧ reads 0x028 s.stats.acksSent ∧
    reads 0x02C s.stats.acksReceived ∧ reads 0x030 s.stats.retransmissions ∧ reads 0x034 s.stats.framesLost ∧
    reads 0x038 s.stats.startTime ∧ reads 0x03C s.stats.endTime ∧ reads 0x040 s.time ∧
    reads 0x044 s.txf.csum ∧
    (∀ w, w < 1024 →
      (∃ v, reads (BitVec.ofNat 16 (0x1000 + 4 * w)) v ∧
        ∀ j, j < 4 → v.extractLsb' (8 * j) 8 = s.bufByte .tx (4 * w + j)) ∧
      (∃ v, reads (BitVec.ofNat 16 (0x2000 + 4 * w)) v ∧
        ∀ j, j < 4 → v.extractLsb' (8 * j) 8 = s.bufByte .rx (4 * w + j))) ∧
    (∀ b k, s.params.maxDataSize ≤ k → s.bufByte b k = 0)

/-- CFG_WRITE, STATUS_WRITE, RX_STATUS_WRITE and MSG_LEN_WRITE (43_host_commands R185–R188): the written fields,
the write-one-to-clear bits, and nothing else but the bus response. -/
def Obligations.ControlWritesSetTheirFields : Prop :=
  ∀ (s : State) (w : Word),
    let out : Outputs := { s.out with busRdata := 0, busErr := false }
    exec (.regWrite 0x004 w) s = .next { s with
      out := out, cfg := ⟨w.getLsbD 0, w.getLsbD 1, w.getLsbD 2⟩ } ∧
    exec (.regWrite 0x008 w) s = .next { s with
      out := out
      status := { s.status with
        done := s.status.done && !w.getLsbD 3, cmdErr := s.status.cmdErr && !w.getLsbD 5 } } ∧
    exec (.regWrite 0x014 w) s = .next { s with out := out, rxValid := s.rxValid && !w.getLsbD 31 } ∧
    exec (.regWrite 0x010 w) s = .next { s with out := out, msgLen := w.extractLsb' 0 16 }

/-- TX_BUF_WRITE (R189): lane j of a write at 0x1000 + 4w goes to byte 4w + j if that byte exists; every other
byte of both buffers, and everything but memory and the bus response, is unchanged. -/
def Obligations.TxBufWriteStoresItsLanes : Prop :=
  ∀ (s : State) (word : Nat) (w : Word), s.params.legal = true → word < 1024 →
    ∃ t, exec (.regWrite (BitVec.ofNat 16 (0x1000 + 4 * word)) w) s = .next t ∧
      t = { s with mem := t.mem, out := { s.out with busRdata := 0, busErr := false } } ∧
      (∀ j, j < 4 → 4 * word + j < s.params.maxDataSize →
        t.bufByte .tx (4 * word + j) = w.extractLsb' (8 * j) 8) ∧
      (∀ k, ¬(4 * word ≤ k ∧ k < 4 * word + 4) → t.bufByte .tx k = s.bufByte .tx k) ∧
      (∀ k, t.bufByte .rx k = s.bufByte .rx k) ∧
      (∀ k, s.params.maxDataSize ≤ k → t.bufByte .tx k = 0)

/-- Writes to read-only registers and to the RX_BUF window are ignored, with no bus error (R184; 10_state R39). -/
def Obligations.ReadOnlyWritesAreIgnored : Prop :=
  ∀ (s : State) (addr : Half) (w : Word),
    let a := addr.toNat
    a % 4 = 0 → (a = 0x00C ∨ (0x018 ≤ a ∧ a ≤ 0x044) ∨ (0x2000 ≤ a ∧ a ≤ 0x2FFC)) →
    exec (.regWrite addr w) s = .next { s with out := { s.out with busRdata := 0, busErr := false } }

/-- A word written to the TX_BUF window reads back in the next access (20_memory R61, R65): in full where all its
bytes exist, and 0 where none does. -/
def Obligations.WindowReadsBackWrites : Prop :=
  ∀ (s t : State) (word : Nat) (w : Word), s.params.legal = true → word < 1024 →
    exec (.regWrite (BitVec.ofNat 16 (0x1000 + 4 * word)) w) s = .next t →
    ∃ v, exec (.regRead (BitVec.ofNat 16 (0x1000 + 4 * word))) t
        = .next { t with out := { t.out with busRdata := v, busErr := false } } ∧
      (4 * word + 4 ≤ s.params.maxDataSize → v = w) ∧ (s.params.maxDataSize ≤ 4 * word → v = 0)

/-- A read returns the value of the start of its cycle, whatever else the cycle does (20_memory R66): the
response of a step out of reset is the one REG_READ gives on the state S before the step. -/
def Obligations.ReadSeesTheStartOfItsCycle : Prop :=
  ∀ s t u : State, step s = .next t → s.sample.rstN = true → s.sample.busValid = true →
    s.sample.busWe = false → exec (.regRead s.sample.busAddr) s = .next u →
    t.out.busRdata = u.out.busRdata ∧ t.out.busErr = u.out.busErr

/-- The interrupt output (10_state R42): STATUS.DONE and CFG.IRQ_EN of the state at the start of the cycle; 0 in a
reset cycle (70_reset R260). -/
def Obligations.InterruptFollowsDone : Prop :=
  ∀ s t : State, step s = .next t →
    t.out.irq = (s.sample.rstN && (s.status.done && s.cfg.irqEn))

/-! ### Time and statistics -/

/-- LOSS_DATA and LOSS_ACK count FRAMES_LOST, both strobes in one cycle add 2, and a strobe changes no protocol
state (43_host_commands R190). -/
def Obligations.LossStrobesAreCounted : Prop :=
  ∀ s : State,
    exec .lossData s = .next { s with stats := { s.stats with framesLost := s.stats.framesLost + 1 } } ∧
    exec .lossAck s = .next { s with stats := { s.stats with framesLost := s.stats.framesLost + 1 } } ∧
    andThen (exec .lossData s) (exec .lossAck)
      = .next { s with stats := { s.stats with framesLost := s.stats.framesLost + 2 } }

/-- TIME counts every cycle with `tick_i` = 1, in every transmitter state, whatever else the cycle does
(10_state R38). -/
def Obligations.TimeCountsEveryTick : Prop :=
  ∀ s t : State, step s = .next t → s.sample.rstN = true →
    t.time = s.time + (if s.sample.tick then 1 else 0)

/-- The statistics bank over a whole step (10_state R37; 20_memory R69): out of reset, every counter grows by exactly
the events of the cycle at the ports and by the transmitter, from 0 if the cycle writes CLR_STATS; START_TIME and
END_TIME latch TIME when a message starts and ends. -/
def Obligations.StatisticsCountPortEvents : Prop :=
  ∀ s t : State, step s = .next t → s.sample.rstN = true →
    let command : Bool := s.sample.busValid && s.sample.busWe && (s.sample.busAddr == 0)
    let cleared : Bool := command && (s.sample.busWdata.extractLsb' 0 4 == 0x2)
    let started : Bool := command && (s.sample.busWdata.extractLsb' 0 4 == 0x1) && s.txState == .idle &&
      decide (1 ≤ s.msgLen.toNat) && decide (s.msgLen.toNat < s.params.maxDataSize)
    let ended : Bool := (s.txState == .awaitingAck || started) && t.txState == .idle
    let from' : Word → Word := fun v => if cleared then 0 else v
    let one : Bool → Word := fun b => if b then 1 else 0
    t.stats.framesReceived = from' s.stats.framesReceived + one s.sample.rxdValid ∧
    t.stats.acksReceived = from' s.stats.acksReceived + one s.sample.rxaValid ∧
    t.stats.framesLost = from' s.stats.framesLost + one s.sample.dataLost + one s.sample.ackLost ∧
    t.stats.acksSent = from' s.stats.acksSent + one t.out.txa.isSome ∧
    t.stats.framesSent = from' s.stats.framesSent + one started ∧
    t.stats.retransmissions = from' s.stats.retransmissions + one (t.out.txd.isSome && !started) ∧
    t.stats.startTime = (if started then s.time else from' s.stats.startTime) ∧
    t.stats.endTime = (if ended then s.time else from' s.stats.endTime)

/-! ### Channel -/

/-- The channel meets its contract (44_network_path R210, R211, R213, R214, R217). In every channel, what a slot does is
what the ports show: a loss is the direction's loss strobe and no presentation; a presentation is the frame on the
direction's port and no strobe; a quiet slot leaves port and strobe to the sample; and without a new emission the slot
goes on as `keptSlot`, which `slotHistory` follows. A record that the sample itself presents on a port stands there in
place of the slot's frame (R215; log 10, DESIGN CHOICE). In a channel whose frames in flight are lawful
(`StepKeepsInvariant`): where the sample leaves a port off and the channel turns it on, the frame is the one in the
slot, unchanged, within the delay bounds, and p is not 1; a loss it reports has a frame in the slot, and p is not 0;
then the slot holds at most the cycle's new emission. And a frame with no new emission behind it meets exactly one of
the two fates, in one cycle: a dropped one is reported after its wait and never presented, a delivered one is presented
once, when its wait and the smallest delay are over. A fate and a wait drawn at the emission, and the wait's count in
cycles, are the model's form (log 10, DESIGN CHOICE). -/
def Obligations.ChannelPresentsOnlyItsFrames : Prop :=
  (∀ (c : Channel) (st : Stimulus) (o : Outputs),
    let I := c.present st
    (slotEvent c.net st.sample.tick c.data = .lost → I.dataLost = true ∧ I.rxdValid = st.sample.rxdValid) ∧
    (∀ f, slotEvent c.net st.sample.tick c.data = .present f →
      I.dataLost = st.sample.dataLost ∧ I.rxdValid = true ∧ (st.sample.rxdValid = false → I.rxdFrame = f)) ∧
    (slotEvent c.net st.sample.tick c.data = .quiet →
      I.dataLost = st.sample.dataLost ∧ I.rxdValid = st.sample.rxdValid) ∧
    (st.sample.rxdValid = true → I.rxdValid = true ∧ I.rxdFrame = st.sample.rxdFrame) ∧
    (o.txd = none → (c.after st o).data = keptSlot c.net st.sample.tick c.data) ∧
    (slotEvent c.net st.sample.tick c.ack = .lost → I.ackLost = true ∧ I.rxaValid = st.sample.rxaValid) ∧
    (∀ a, slotEvent c.net st.sample.tick c.ack = .present a →
      I.ackLost = st.sample.ackLost ∧ I.rxaValid = true ∧ (st.sample.rxaValid = false → I.rxaFrame = a)) ∧
    (slotEvent c.net st.sample.tick c.ack = .quiet →
      I.ackLost = st.sample.ackLost ∧ I.rxaValid = st.sample.rxaValid) ∧
    (st.sample.rxaValid = true → I.rxaValid = true ∧ I.rxaFrame = st.sample.rxaFrame) ∧
    (o.txa = none → (c.after st o).ack = keptSlot c.net st.sample.tick c.ack)) ∧
  (∀ (c : Channel) (st : Stimulus) (o : Outputs), c.lawful = true →
    (st.sample.rxdValid = false → (c.present st).rxdValid = true →
      c.net.loss ≠ .always ∧
      ∃ f, c.data = some f ∧ (c.present st).rxdFrame = f.frame ∧
        c.net.minDelay ≤ f.ticks ∧ f.ticks ≤ c.net.maxDelay ∧
        (o.txd = none → (c.after st o).data = none)) ∧
    (st.sample.rxaValid = false → (c.present st).rxaValid = true →
      c.net.loss ≠ .always ∧
      ∃ f, c.ack = some f ∧ (c.present st).rxaFrame = f.frame ∧
        c.net.minDelay ≤ f.ticks ∧ f.ticks ≤ c.net.maxDelay ∧
        (o.txa = none → (c.after st o).ack = none)) ∧
    (st.sample.dataLost = false → (c.present st).dataLost = true →
      c.net.loss ≠ .never ∧ c.data.isSome = true ∧ (o.txd = none → (c.after st o).data = none)) ∧
    (st.sample.ackLost = false → (c.present st).ackLost = true →
      c.net.loss ≠ .never ∧ c.ack.isSome = true ∧ (o.txa = none → (c.after st o).ack = none))) ∧
  ∀ (α : Type) (net : NetConfig) (f : Flight α) (ticks : List Bool),
    net.minDelay ≤ net.maxDelay → f.lawful net = true → f.wait < ticks.length →
    (f.fate = .drop →
      slotHistory net (some f) ticks =
        List.replicate f.wait .quiet ++ .lost :: List.replicate (ticks.length - f.wait - 1) .quiet) ∧
    (f.fate = .deliver → net.minDelay ≤ f.ticks + ticks.dropLast.count true →
      ∃ k, k < ticks.length ∧
        slotHistory net (some f) ticks =
          List.replicate k .quiet ++ .present f.frame :: List.replicate (ticks.length - k - 1) .quiet ∧
        net.minDelay ≤ f.ticks + (ticks.take k).count true ∧ f.ticks + (ticks.take k).count true ≤ net.maxDelay)

/-- The channel takes every frame the block emits, in the cycle of its emission; the new frame replaces one in
the slot (R212), and its fate is the one the loss law leaves: delivered at p = 0, dropped at p = 1, else as drawn
(R217). A frame whose fate does not fall in the cycle waits on and ages by the cycle's tick (R214). The model's choice
(log 10, DESIGN CHOICE) is the form: the slot holds a fate and a wait drawn at the emission, and the wait counts down
by one in each cycle. That NetworkConfig stays in every step, between messages and at a reset too, is the model's
choice (log 22), and so is that a step in reset keeps the slots and that nothing else empties them (log 10,
log 23). -/
def Obligations.ChannelTakesEmissions : Prop :=
  ∀ s t : State, step s = .next t →
    let takes : LossLaw → Draw → Fate → Prop := fun law draw fate =>
      (law = .never → fate = .deliver) ∧ (law = .always → fate = .drop) ∧ (law = .either → fate = draw.fate)
    (∀ f, t.out.txd = some f → ∃ fate, takes s.chan.net.loss s.stimulus.dataDraw fate ∧
      t.chan.data = some ⟨f, 0, fate, s.stimulus.dataDraw.wait⟩) ∧
    (∀ a, t.out.txa = some a → ∃ fate, takes s.chan.net.loss s.stimulus.ackDraw fate ∧
      t.chan.ack = some ⟨a, 0, fate, s.stimulus.ackDraw.wait⟩) ∧
    (∀ f, s.chan.data = some f → f.event s.chan.net s.sample.tick = .quiet → t.out.txd = none →
      t.chan.data = some ⟨f.frame, f.ticks + (if s.sample.tick then 1 else 0), f.fate, f.wait - 1⟩) ∧
    (∀ a, s.chan.ack = some a → a.event s.chan.net s.sample.tick = .quiet → t.out.txa = none →
      t.chan.ack = some ⟨a.frame, a.ticks + (if s.sample.tick then 1 else 0), a.fate, a.wait - 1⟩) ∧
    t.chan.net = s.chan.net

/-! ### Whole messages -/

/-- A lossless message succeeds (95_test_vectors W1; R131, R161, R135): from any IDLE state with a legal staged
message, sender and receiver in step, an empty channel (70_reset R263, R269) that may deliver at once, START, the
delivery of the data frame and the delivery of its ack end in success in three cycles, with the payload in RX_BUF, one
frame and one ack counted on each side, no retransmission and no loss; whatever the ticks. At p = 0 the two drawn fates
are `deliver` in any case (R217). The draws in the script are the model's form (log 5, log 10). -/
def Obligations.LosslessMessageSucceeds : Prop :=
  ∀ (s : State) (start data ack : Stimulus) (tick0 tick1 tick2 : Bool) (rest : List Stimulus),
    s.params.legal = true → s.txState = .idle → 1 ≤ s.msgLen.toNat → s.msgLen.toNat < s.params.maxDataSize →
    (s.cfg.persist = true → s.txSeq = s.rxExp) →
    s.chan.data = none → s.chan.ack = none → s.chan.net.minDelay = 0 →
    settle s.chan.net.loss start.dataDraw.fate = .deliver → start.dataDraw.wait = 0 →
    settle s.chan.net.loss data.ackDraw.fate = .deliver → data.ackDraw.wait = 0 →
    start.sample = { commandSample 0x1 with tick := tick0 } → data.sample = { Sample.idle with tick := tick1 } →
    ack.sample = { Sample.idle with tick := tick2 } → s.script = start :: data :: ack :: rest →
    ∃ t, core.run 3 s = .next t ∧
      t.txState = .idle ∧ t.status.done = true ∧ t.status.success = true ∧ t.status.err = 0 ∧
      t.rxValid = true ∧ t.rxLen = s.msgLen ∧
      (∀ k, k < s.msgLen.toNat → t.bufByte .rx k = s.bufByte .tx k) ∧
      (∀ k, s.msgLen.toNat ≤ k → t.bufByte .rx k = s.bufByte .rx k) ∧
      t.txSeq = (if s.cfg.persist then s.txSeq else 0) ^^^ 1 ∧ t.rxExp = t.txSeq ∧
      t.stats.framesSent = s.stats.framesSent + 1 ∧ t.stats.framesReceived = s.stats.framesReceived + 1 ∧
      t.stats.acksSent = s.stats.acksSent + 1 ∧ t.stats.acksReceived = s.stats.acksReceived + 1 ∧
      t.stats.retransmissions = s.stats.retransmissions ∧ t.stats.framesLost = s.stats.framesLost ∧
      t.chan.data = none ∧ t.chan.ack = none ∧ t.script = rest

/-- The retry budget and the timeout latency under total loss (R140, R142; 44_network_path R217): with p = 1, an empty
channel and a tick every cycle, and whatever the channel's draws, a message STARTed from IDLE in cycle 0 is sent in the
cycles 0, T + 2, 2(T + 2), …, exactly 1 + MAX_RETRIES times and always as the same valid frame (T = TIMEOUT_TICKS); it
waits until cycle (MAX_RETRIES + 1)(T + 2), and fails there, after exactly MAX_RETRIES retransmissions, with ERR =
PermanentFailure. The draws in the script are the model's form (log 5, log 10). -/
def Obligations.TotalLossFailsAfterTheBudget : Prop :=
  ∀ (s : State) (start : Stimulus) (quiet rest : List Stimulus),
    s.params.legal = true → s.txState = .idle → 1 ≤ s.msgLen.toNat → s.msgLen.toNat < s.params.maxDataSize →
    s.chan.data = none → s.chan.ack = none → s.chan.net.loss = .always →
    let period := s.params.timeoutTicks + 2
    let n := (s.params.maxRetries + 1) * period
    start.sample = { commandSample 0x1 with tick := true } →
    (∀ st ∈ quiet, st.sample = { Sample.idle with tick := true }) → quiet.length = n →
    s.script = start :: (quiet ++ rest) →
    (∃ f : DataFrame, f.valid s.params = true ∧ f.len = s.msgLen ∧
      ∀ k, k < n → ∃ t, core.run (k + 1) s = .next t ∧ t.txState = .awaitingAck ∧
        t.out.txd = (if k % period = 0 then some f else none)) ∧
    ∃ t, core.run (n + 1) s = .next t ∧ t.txState = .idle ∧ t.out.txd = none ∧
      t.status.done = true ∧ t.status.success = false ∧ t.status.err = 0x4 ∧ t.cond = 0x4 ∧
      t.retry.toNat = s.params.maxRetries ∧
      t.stats.retransmissions = s.stats.retransmissions + BitVec.ofNat 32 s.params.maxRetries ∧
      t.stats.framesSent = s.stats.framesSent + 1 ∧
      t.stats.startTime = s.time ∧ t.stats.endTime = s.time + BitVec.ofNat 32 n ∧ t.script = rest

/-- A lost ack is recovered when duplicates are acknowledged (42_receiver R162, R165; 90_conflicts C1): in a state
of the invariant that waits for the ack of a payload the receiver has taken (RX_EXP is past TX_SEQ), with an empty
channel, REACK_DUP = 1 and the timer not expired, one more copy of TXF and then the ack it brings end in success; the
payload is not delivered again. With REACK_DUP = 0 the copy brings no ack and the transmitter goes on
waiting. The draws in the script are the model's form (log 5, log 10). -/
def Obligations.ReackRecoversALostAck : Prop :=
  ∀ (s : State) (copy ack : Stimulus) (tick0 tick1 : Bool) (rest : List Stimulus),
    s.Inv → s.txState = .awaitingAck → s.rxExp = s.txSeq ^^^ 1 → s.timer.toNat ≤ s.params.timeoutTicks →
    s.chan.data = none → s.chan.ack = none → s.chan.net.minDelay = 0 →
    settle s.chan.net.loss copy.ackDraw.fate = .deliver → copy.ackDraw.wait = 0 →
    copy.sample = { Sample.idle with rxdValid := true, rxdFrame := s.txf, tick := tick0 } →
    ack.sample = { Sample.idle with tick := tick1 } → s.script = copy :: ack :: rest →
    (s.cfg.reackDup = true →
      ∃ t, core.run 2 s = .next t ∧ t.txState = .idle ∧ t.status.done = true ∧ t.status.success = true ∧
        t.rxExp = s.rxExp ∧ t.rxLen = s.rxLen ∧ SameBuffers s t ∧
        t.stats.acksSent = s.stats.acksSent + 1 ∧ t.stats.retransmissions = s.stats.retransmissions) ∧
    (s.cfg.reackDup = false →
      ∃ t, core.run 1 s = .next t ∧ t.txState = .awaitingAck ∧ t.out.txa = none ∧ t.cond = 0xA ∧
        t.stats.acksSent = s.stats.acksSent ∧ SameBuffers s t)

/-- LOADMSG (30_encoding R100) stages a message: run as its script entries, it leaves the bytes in TX_BUF and
the length in MSG_LEN, whatever the transmitter and the channel do meanwhile; RX_BUF stays too when the transmitter is
IDLE and no data frame is in flight. -/
def Obligations.LoadMsgStagesTheMessage : Prop :=
  ∀ (s : State) (bytes : List Byte) (rest : List Stimulus),
    s.params.legal = true → bytes.length ≤ s.params.maxDataSize →
    s.script = scriptLoadMsg bytes ++ rest →
    ∃ t, core.run (scriptLoadMsg bytes).length s = .next t ∧ t.script = rest ∧
      t.msgLen.toNat = bytes.length ∧ (∀ k, k < bytes.length → t.bufByte .tx k = bytes.getD k 0) ∧
      (s.txState = .idle → s.chan.data = none → ∀ k, t.bufByte .rx k = s.bufByte .rx k)
end

