-- ==== Sys2Proof/Tests/Slice0.lean ====
section
/-! SUPPORT. Tests: ill-formed terms refused, words of the opcode table written out and decoded, one-step vectors of
95_test_vectors (named in each docstring), and a witness for the hypotheses of each obligation. -/

namespace Sys2Proof.Tests

open Sys2Proof.Machine

/-! ### Helpers -/

/-- The answer is a next state with the property. -/
def nextIs (o : Host.Outcome State Fault Refusal) (p : State → Bool) : Bool :=
  match o with
  | .next t => p t
  | .fault _ => false
  | .refused _ => false

/-- One step from `s` with one script entry. -/
def stepWith (s : State) (st : Stimulus) : Host.Outcome State Fault Refusal := step (s.setScript [st])

/-- A reset state with small parameters: four payload bytes, one retransmission, TIMEOUT_TICKS = 0. -/
def small : State := State.resetWith ⟨4, 1, 0⟩ 0 ⟨⟨.either, 0, 5⟩, none, none⟩ []

def abc : List Byte := [0x41, 0x42, 0x43]

/-- MKDATA(seq, bytes) with MAX_DATA_SIZE = 4, written out. -/
def abcFrame : DataFrame := ⟨0x01, 0, 3, [0x41, 0x42, 0x43, 0], 0xCA⟩
def zFrame : DataFrame := ⟨0x01, 1, 1, [0x5A, 0, 0, 0], 0x5D⟩
def badFrame : DataFrame := ⟨0x01, 0, 3, [0x40, 0x42, 0x43, 0], 0xCA⟩
def ack0 : AckFrame := ⟨0x02, 0, 0x2⟩
def ack1 : AckFrame := ⟨0x02, 1, 0x3⟩

/-- A staged message "ABC". -/
def staged : State := { small with mem := [(0x1000, 0x41), (0x1001, 0x42), (0x1002, 0x43)], msgLen := 3 }

/-- Waiting for the ack of "ABC", with the timer expired. -/
def expired : State := { small with txState := .awaitingAck, txf := abcFrame, timer := 1, time := 7 }

/-- The same with the timer running. -/
def waiting : State := { expired with timer := 0 }

/-- The same with the retry budget spent. -/
def spent : State := { expired with retry := 1 }

/-! ### Well-formedness: every check refuses an ill-formed term -/

theorem test_wf_maxDataSize_low : Params.legal ⟨1, 3, 2⟩ = false := by decide
theorem test_wf_maxDataSize_high : Params.legal ⟨4097, 3, 2⟩ = false := by decide
theorem test_wf_maxRetries_high : Params.legal ⟨64, 256, 2⟩ = false := by decide
theorem test_wf_timeoutTicks_high : Params.legal ⟨64, 3, 4294967295⟩ = false := by decide
theorem test_wf_bounds : Params.legal ⟨2, 0, 0⟩ = true ∧ Params.legal ⟨4096, 255, 4294967294⟩ = true := by decide
theorem test_wf_rxData : (Instr.rxData ⟨1, 0, 0, [], 1⟩).wf ⟨4, 1, 0⟩ = false := by decide
theorem test_wf_rxAccept : (Instr.rxAccept ⟨1, 0, 0, [0, 0, 0], 1⟩).wf ⟨4, 1, 0⟩ = false := by decide
theorem test_wf_rxDuplicate : (Instr.rxDuplicate ⟨1, 0, 0, [0, 0, 0, 0, 0], 1⟩).wf ⟨4, 1, 0⟩ = false := by decide
theorem test_wf_rxDrop : (Instr.rxDrop ⟨1, 0, 0, [0], 1⟩).wf ⟨4, 1, 0⟩ = false := by decide
theorem test_wf_sample : Sample.idle.fits ⟨4, 1, 0⟩ = false := by decide
theorem test_wf_accepts : (Instr.rxData abcFrame).wf ⟨4, 1, 0⟩ = true := by decide

/-! ### Decoding: words written out from 30_encoding R84, R85, R91, R92 -/

/-- CCW 0b00000001, bus_addr 0x0044. -/
theorem test_decode_regRead : decode .ccw [0b00000001, 0x44, 0x00] = .ok (.regRead 0x0044) := by decide

/-- CCW 0b00000011, bus_addr 0x1004, bus_wdata 0x44434241, low byte first. -/
theorem test_decode_regWrite :
    decode .ccw [0b00000011, 0x04, 0x10, 0x41, 0x42, 0x43, 0x44] = .ok (.regWrite 0x1004 0x44434241) := by decide

theorem test_decode_nop : decode .cmd [0b11110000, 0, 0, 0] = .ok (.nop 0xF) := by decide
theorem test_decode_start : decode .cmd [0b00000001, 0, 0, 0x80] = .ok (.start 0x8000000) := by decide
theorem test_decode_clrStats : decode .cmd [0b00000010, 0, 0, 0] = .ok (.clrStats 0) := by decide
theorem test_decode_cmdReserved3 : decode .cmd [0b00000011, 1, 0, 0] = .ok (.cmdReserved3 0x10) := by decide
theorem test_decode_cmdReserved47 :
    decode .cmd [0b00000100, 0, 0, 0] = .ok (.cmdReserved47 0 0) ∧
      decode .cmd [0b00000110, 0, 0, 0] = .ok (.cmdReserved47 2 0) := by decide
theorem test_decode_cmdReserved8F :
    decode .cmd [0b00001000, 0, 0, 0] = .ok (.cmdReserved8F 0 0) ∧
      decode .cmd [0b00001101, 0, 0, 0] = .ok (.cmdReserved8F 5 0) := by decide

/-- CCW 0b00000100; the record {0x01, 0, 3, "ABC", 0xCA} from byte 13. -/
theorem test_decode_rxData :
    decode .ccw [0b00000100, 0, 0, 0, 0, 0, 0, 0, 0, 0, 0, 0, 0,
      0x01, 0x00, 0x03, 0x00, 0xCA, 0, 0, 0, 0x41, 0x42, 0x43, 0x00] = .ok (.rxData abcFrame) := by decide

/-- CCW 0b00001000; the record {0x02, 1, 0x3} from byte 7. -/
theorem test_decode_rxAck :
    decode .ccw [0b00001000, 0, 0, 0, 0, 0, 0, 0x02, 0x01, 0x03, 0, 0, 0] = .ok (.rxAck ack1) := by decide

theorem test_decode_timeoutRetransmit : decode .ccw [0b10000000] = .ok .timeoutRetransmit := by decide
theorem test_decode_tick : decode .ccw [0b00010000] = .ok .tick := by decide
theorem test_decode_lossData : decode .ccw [0b00100000] = .ok .lossData := by decide
theorem test_decode_lossAck : decode .ccw [0b01000000] = .ok .lossAck := by decide

/-- The rows that repeat a pattern (R92): the word decodes to the row that owns it. -/
theorem test_decode_shared_patterns :
    decode Instr.send.format (encode .send) = .ok (.start 0) ∧
      decode (Instr.rxAccept abcFrame).format (encode (.rxAccept abcFrame)) = .ok (.rxData abcFrame) ∧
      decode (Instr.rxDuplicate abcFrame).format (encode (.rxDuplicate abcFrame)) = .ok (.rxData abcFrame) ∧
      decode (Instr.rxDrop abcFrame).format (encode (.rxDrop abcFrame)) = .ok (.rxData abcFrame) ∧
      decode (Instr.ackAccept ack0).format (encode (.ackAccept ack0)) = .ok (.rxAck ack0) ∧
      decode (Instr.ackDiscard ack0).format (encode (.ackDiscard ack0)) = .ok (.rxAck ack0) ∧
      decode Instr.timeoutFail.format (encode .timeoutFail) = .ok .timeoutRetransmit := by decide

theorem test_decode_rejects :
    decode .ccw [] = .error .emptyImage ∧ decode .ccw [0b00000010] = .error .noOperation ∧
      decode .ccw [0b00000101] = .error .severalOperations ∧ decode .cmd [1, 0, 0] = .error .commandLength := by
  decide

theorem test_decode_table_words :
    decodeTableWord 8 0x01 = some (.regRead 0) ∧ decodeTableWord 32 0x00000001 = some (.start 0) ∧
      decodeTableWord 8 0x80 = some .timeoutRetransmit ∧ decodeTableWord 8 0x10 = some .tick := by decide

/-! ### Frames (95_test_vectors 2.1) -/

/-- K2. -/
theorem test_checksum_K2 : checksum [0x01, 0x00, 0x03, 0x00, 0x41, 0x42, 0x43] = 0xCA := by decide
/-- K4, K16 with MAX_DATA_SIZE = 4. -/
theorem test_mkData_K4_K16 :
    mkData ⟨4, 1, 0⟩ 0 abc = some abcFrame ∧ mkData ⟨4, 1, 0⟩ 0 [1, 2, 3, 4, 5] = none := by decide
/-- K7: the carry into the second byte. -/
theorem test_mkData_K7 : (buildData 64 1 (List.replicate 63 0xFF)).csum = 0x3F02 := by
  set_option maxRecDepth 4000 in decide
/-- K9. -/
theorem test_mkAck_K9 : mkAck 0 = ack0 ∧ mkAck 1 = ack1 := by decide
/-- K10, K11. -/
theorem test_valid_K10_K11 :
    badFrame.valid ⟨4, 1, 0⟩ = false ∧ DataFrame.valid ⟨4, 1, 0⟩ { abcFrame with len := 1 } = false := by decide
/-- K12, K13. -/
theorem test_valid_K12_K13 :
    DataFrame.valid ⟨4, 1, 0⟩ { abcFrame with payload := [0x42, 0x41, 0x43, 0] } = true ∧
      DataFrame.valid ⟨4, 1, 0⟩ { abcFrame with payload := [0x41, 0x42, 0x43, 9] } = true := by decide
/-- K14, with the bound MAX_DATA_SIZE = 4. -/
theorem test_wf_K14 :
    DataFrame.wf ⟨4, 1, 0⟩ { abcFrame with seq := 2 } = false ∧
      DataFrame.wf ⟨4, 1, 0⟩ { abcFrame with type := 0x02 } = false ∧
      DataFrame.wf ⟨4, 1, 0⟩ { abcFrame with len := 5 } = false := by decide
/-- K15. -/
theorem test_ack_K15 : AckFrame.wf ⟨0x01, 0, 0x1⟩ = false ∧ AckFrame.verify ⟨0x02, 0, 0x3⟩ = false := by decide

/-! ### Operations, one step each -/

/-- H5. -/
theorem test_regRead_H5 :
    nextIs (stepWith State.reset (scriptRd 0x018)) (fun t => t.out.busRdata == 0x00030040) = true ∧
      nextIs (stepWith State.reset (scriptRd 0x01C)) (fun t => t.out.busRdata == 0x2) = true := by decide
/-- H13: a read in the cycle of a termination sees the state before it. -/
theorem test_regRead_H13 :
    nextIs (stepWith { waiting with rxExp := 1 } (withAck (scriptRd 0x008) ack0))
      (fun t => t.out.busRdata == 0x5 && t.statusWord == 0x1E) = true := by decide
/-- H1, H2, H3. -/
theorem test_bus_errors_H1_H3 :
    nextIs (stepWith small (scriptRd 0x002)) (fun t => t.out.busErr && t.out.busRdata == 0) = true ∧
      nextIs (stepWith small (scriptRd 0x048)) (fun t => t.out.busErr) = true ∧
      nextIs (stepWith small (scriptWr 0x3000 1)) (fun t => t.out.busErr && t.mem == []) = true := by decide
/-- H10. -/
theorem test_regWrite_H10 :
    nextIs (stepWith small (scriptWr 0x010 0x10003)) (fun t => t.msgLen == 3 && !t.out.busErr) = true := by decide
/-- H11: lanes in the buffer, and lanes past MAX_DATA_SIZE = 64. -/
theorem test_regWrite_H11 :
    nextIs (stepWith State.reset (scriptWr 0x103C 0x44434241))
      (fun t => t.mem == [(0x103C, 0x41), (0x103D, 0x42), (0x103E, 0x43), (0x103F, 0x44)]) = true ∧
      nextIs (stepWith State.reset (scriptWr 0x1040 0x55555555)) (fun t => t.mem == [] && !t.out.busErr) = true := by
  decide
/-- H7. -/
theorem test_nop_H7 :
    nextIs (stepWith small (scriptWr 0x000 0x10)) (fun t => t.statusWord == 0 && t.cond == 0) = true := by decide
/-- T1. -/
theorem test_start_T1 :
    nextIs (stepWith { staged with time := 2 } (withTick scriptStart)) (fun t =>
      t.statusWord == 1 && t.timer == 0 && t.stats.startTime == 2 && t.txf.csum == 0xCA &&
        t.stats.framesSent == 1 && t.out.txd == some abcFrame) = true := by decide
/-- T2, T3 (with MAX_DATA_SIZE = 4). -/
theorem test_start_T2_T3 :
    nextIs (stepWith small scriptStart) (fun t => t.statusWord == 0x108 && t.cond == 1 && t.out.txd == none) = true ∧
      nextIs (stepWith { staged with msgLen := 4 } scriptStart)
        (fun t => t.statusWord == 0x208 && t.cond == 2 && t.out.txd == none) = true := by decide
/-- T5. -/
theorem test_start_T5 :
    nextIs (stepWith waiting scriptStart) (fun t => t.statusWord == 0x21 && t.cond == 8) = true := by decide
/-- T15: a stale ack in the START cycle. -/
theorem test_start_T15 :
    nextIs (stepWith { staged with time := 2 } (withAck scriptStart ack0))
      (fun t => t.statusWord == 0x1A && t.stats.startTime == 2 && t.stats.endTime == 2) = true := by decide
/-- H8. -/
theorem test_clrStats_H8 :
    nextIs (stepWith { small with stats := ⟨1, 1, 1, 1, 0, 0, 2, 4⟩, time := 5 } (withTick scriptClrStats))
      (fun t => t.stats == ⟨0, 0, 0, 0, 0, 0, 0, 0⟩ && t.time == 6) = true := by decide
/-- H6, with OP 0x3, 0x7, 0xF. -/
theorem test_reserved_H6 :
    nextIs (stepWith small (scriptWr 0x000 0x3)) (fun t => t.statusWord == 0x20 && t.cond == 9) = true ∧
      nextIs (stepWith small (scriptWr 0x000 0x7)) (fun t => t.statusWord == 0x20 && t.cond == 9) = true ∧
      nextIs (stepWith small (scriptWr 0x000 0xF)) (fun t => t.statusWord == 0x20 && t.cond == 9) = true := by decide
/-- R133 on "ABC". -/
theorem test_send :
    nextIs (exec .send { expired with txState := .idle }) (fun t =>
      t.txState == .awaitingAck && t.timer == 0 && t.stats.framesSent == 1 && t.out.txd == some abcFrame) = true := by
  decide
/-- V1. -/
theorem test_rxData_V1 :
    nextIs (stepWith small (withData scriptNone abcFrame)) (fun t =>
      t.mem == [(0x2000, 0x41), (0x2001, 0x42), (0x2002, 0x43)] && t.rxStatusWord == 0x80000003 &&
        t.out.rxDeliver && t.out.txa == some ack0 && t.stats.acksSent == 1 && t.statusWord == 0x4) = true := by decide
/-- V4. -/
theorem test_rxData_V4 :
    nextIs (stepWith small (withData scriptNone badFrame)) (fun t =>
      t.cond == 5 && t.stats.framesReceived == 1 && t.stats.framesLost == 0 && t.out.txa == none) = true := by decide
/-- V8: the bytes at index 1 and 2 are kept. -/
theorem test_rxAccept_V8 :
    nextIs (exec (.rxAccept zFrame) { small with rxExp := 1, mem := [(0x2000, 0x41), (0x2001, 0x42)] }) (fun t =>
      t.mem == [(0x2000, 0x5A), (0x2001, 0x42)] && t.rxStatusWord == 0x80010001 && t.rxExp == 0) = true := by decide
/-- V2. -/
theorem test_rxDuplicate_V2 :
    nextIs (exec (.rxDuplicate zFrame) small) (fun t => t.cond == 0xA && t.out.txa == none) = true := by decide
/-- V3: REACK_DUP written in the same cycle. -/
theorem test_rxDuplicate_V3 :
    nextIs (stepWith small (withData (scriptWr 0x004 1) zFrame))
      (fun t => t.cond == 0xA && t.out.txa == some ack1 && t.stats.acksSent == 1) = true := by decide
/-- V5, the length. -/
theorem test_rxDrop_V5 :
    nextIs (exec (.rxDrop { abcFrame with len := 5 }) small) (fun t => t.cond == 5) = true := by decide
/-- T6, T8. -/
theorem test_rxAck_T6_T8 :
    nextIs (stepWith waiting (withAck scriptNone ack1))
      (fun t => t.cond == 6 && t.stats.acksReceived == 1 && t.statusWord == 1) = true ∧
      nextIs (stepWith small (withAck scriptNone ack0))
        (fun t => t.cond == 6 && t.stats.acksReceived == 1 && t.statusWord == 0) = true := by decide
/-- T10: the ack wins over the expired timer. -/
theorem test_rxAck_T10 :
    nextIs (stepWith { expired with time := 6 } (withAck scriptNone ack0)) (fun t =>
      t.statusWord == 0x1A && t.stats.endTime == 6 && t.stats.retransmissions == 0 && t.out.txd == none) = true := by
  decide
/-- R135. -/
theorem test_ackAccept :
    nextIs (exec (.ackAccept ack0) waiting) (fun t => t.statusWord == 0x1A && t.stats.endTime == 7) = true := by decide
/-- T7. -/
theorem test_ackDiscard_T7 :
    nextIs (exec (.ackDiscard ⟨0x02, 0, 0x3⟩) waiting) (fun t => t.cond == 6 && t.statusWord == 1) = true := by decide
/-- T11. -/
theorem test_timeoutRetransmit_T11 :
    nextIs (stepWith expired (withTick (withAck scriptNone ack1))) (fun t =>
      t.cond == 7 && t.statusWord == 0x00010001 && t.out.txd == some abcFrame && t.timer == 0 &&
        t.stats.retransmissions == 1) = true := by decide
/-- T12 with the budget spent. -/
theorem test_timeoutFail_T12 :
    nextIs (stepWith spent (withTick scriptNone)) (fun t =>
      t.statusWord == 0x00010408 && t.cond == 4 && t.stats.endTime == 7 && t.timer == 1 && t.out.txd == none) = true :=
  by decide
/-- T16. -/
theorem test_tick_T16 :
    nextIs (exec .tick { waiting with timer := 1, time := 7 }) (fun t => t.timer == 2 && t.time == 8) = true := by
  decide
/-- H12. -/
theorem test_loss_H12 :
    nextIs (stepWith small (withAckLost (withDataLost scriptNone))) (fun t => t.stats.framesLost == 2) = true := by
  decide
/-- E1: `irq_o` follows DONE of the state at the start of the cycle. -/
theorem test_irq_E1 :
    nextIs (stepWith { small with cfg := ⟨false, false, true⟩ } scriptStart) (fun t => !t.out.irq && t.status.done) = true ∧
      nextIs (stepWith { small with cfg := ⟨false, false, true⟩, status := ⟨true, false, false, 1⟩ } scriptAckDone)
        (fun t => t.out.irq && t.statusWord == 0x100) = true := by decide
/-- E2: the later sub-step's condition stays. -/
theorem test_cond_E2 :
    nextIs (stepWith expired (withData scriptNone badFrame)) (fun t => t.cond == 7) = true := by decide
/-- Z1, Z2. -/
theorem test_reset_Z1 :
    nextIs (stepWith { expired with stats := ⟨1, 2, 3, 4, 5, 6, 7, 8⟩, mem := [(0x1000, 1)] }
      (withData scriptReset abcFrame)) (fun t =>
        t.statusWord == 0 && t.stats == ⟨0, 0, 0, 0, 0, 0, 0, 0⟩ && t.time == 0 && t.txf.csum == 0 &&
          t.out == Outputs.zero && t.mem == []) = true := by decide
/-- R212, R214: a frame emitted in one cycle stands in the slot with no ticks counted. -/
theorem test_channel_takes :
    nextIs (stepWith staged (withDataDraw (withTick scriptStart) ⟨.drop, 3⟩))
      (fun t => t.chan.data == some ⟨abcFrame, 0, .drop, 3⟩) = true := by decide
/-- R217: the fate at p = 0 and p = 1, whatever is drawn. -/
theorem test_channel_settles :
    settle .never .drop = .deliver ∧ settle .always .deliver = .drop ∧ settle .either .drop = .drop := by decide
/-- R214: with delays of 1 to 2 ticks and a long wait drawn, the frame is presented in the last cycle with at most two
ticks before it; with no wait, in the first cycle with one tick before it. -/
theorem test_channel_delay_bounds :
    slotHistory ⟨.never, 1, 2⟩ (some ⟨ack0, 0, .deliver, 9⟩) [false, true, true, false, true, true]
        = [.quiet, .quiet, .quiet, .quiet, .present ack0, .quiet] ∧
      slotHistory ⟨.never, 1, 2⟩ (some ⟨ack0, 0, .deliver, 0⟩) [false, true, true, false]
        = [.quiet, .quiet, .present ack0, .quiet] := by decide
/-- Log 21: a frame due in the cycle of a new emission is presented, and the new one takes the slot. -/
theorem test_channel_tie :
    nextIs (stepWith { expired with chan := ⟨⟨.never, 0, 5⟩, some ⟨abcFrame, 0, .deliver, 0⟩, none⟩ } scriptNone)
      (fun t => t.stats.framesReceived == 1 && t.chan.data == some ⟨abcFrame, 0, .deliver, 0⟩) = true := by decide
/-- R215: a record the sample presents stands before the channel's frame. -/
theorem test_channel_injection :
    let c : Channel := ⟨⟨.never, 0, 5⟩, some ⟨abcFrame, 0, .deliver, 0⟩, none⟩
    (c.present (withData scriptNone badFrame)).rxdFrame = badFrame ∧ (c.present scriptNone).rxdFrame = abcFrame := by
  decide
/-- R7. -/
theorem test_step_refuses :
    (match step { small with params := ⟨1, 0, 0⟩ } with
      | .refused .parameterOutOfRange => true
      | _ => false) = true := by decide

/-! ### Witnesses: a state and operands that meet the hypotheses of each obligation -/

theorem witness_StepRunsDecodedInstruction :
    let bs : List Byte := [0b00000001, 0x08]
    let s : State := { small with script := [entry (sampleOfImage bs)] }
    let bs' : List Byte := [0b00010000]
    let s' : State := { small with script := [entry (sampleOfImage bs')] }
    (s.params.legal = true ∧ (Instr.regRead 8).wf s.params = true ∧ decode .ccw bs = .ok (.regRead 8) ∧
      Instr.regRead 8 ≠ .timeoutRetransmit ∧ s.sample = sampleOfImage bs) ∧
    (s'.params.legal = true ∧ Instr.tick.wf s'.params = true ∧ decode .ccw bs' = .ok .tick ∧
      s'.sample = sampleOfImage bs') := by decide

theorem witness_StepRunsDecodedCommand :
    let s : State := { small with script := [entry (commandSample 0xF1)] }
    s.params.legal = true ∧ decode .cmd (wordImage 0xF1) = .ok (.start 0xF) ∧ s.sample = commandSample 0xF1 := by decide

theorem witness_CycleRunsSubStepsInOrder : Sample.idle.rstN = true ∧ scriptReset.sample.rstN = false := by decide

theorem witness_StepRefusesIllegalParameters :
    let s : State := { small with params := ⟨4097, 255, 4294967294⟩ }
    ¬(2 ≤ s.params.maxDataSize ∧ s.params.maxDataSize ≤ 4096 ∧ s.params.maxRetries ≤ 255 ∧
      s.params.timeoutTicks ≤ 2 ^ 32 - 2) := by decide

theorem witness_EveryLegalStepCompletes :
    let s : State := { small with params := ⟨4096, 255, 4294967294⟩ }
    2 ≤ s.params.maxDataSize ∧ s.params.maxDataSize ≤ 4096 ∧ s.params.maxRetries ≤ 255 ∧
      s.params.timeoutTicks ≤ 2 ^ 32 - 2 := by decide

theorem witness_ResetCycleGivesResetValues :
    let s : State := { spent with script := [scriptReset] }
    s.params.legal = true ∧ s.sample.rstN = false := by decide

theorem witness_ResetMeetsInvariant :
    Params.legal ⟨2, 0, 0⟩ = true ∧ Params.legal ⟨4096, 255, 4294967294⟩ = true ∧
      Channel.lawful ⟨⟨.never, 1, 1⟩, some ⟨abcFrame, 1, .deliver, 4⟩, some ⟨ack0, 7, .deliver, 0⟩⟩ = false ∧
      Channel.lawful ⟨⟨.never, 1, 1⟩, some ⟨abcFrame, 1, .deliver, 4⟩, none⟩ = true ∧
      Channel.lawful ⟨⟨.always, 0, 0⟩, some ⟨abcFrame, 9, .drop, 4⟩, some ⟨ack0, 0, .drop, 0⟩⟩ = true := by decide

/-- A waiting state of the invariant (`Waiting` is not vacuous), with the timer at its bound and a frame in flight; each
step from it completes (`EveryLegalStepCompletes`). -/
theorem witness_StepKeepsInvariant :
    let s : State := { spent with chan := ⟨⟨.either, 0, 5⟩, some ⟨abcFrame, 5, .deliver, 2⟩, some ⟨ack0, 0, .drop, 1⟩⟩ }
    s.Inv ∧ s.txState = .awaitingAck ∧ s.timer.toNat = 1 := by
  refine ⟨⟨by decide, by decide, by decide, by decide, by decide, by decide, by decide, by decide, by decide,
    by decide, by decide, by decide,
    fun _ => ⟨by decide, by decide, by decide, by decide, by decide, by decide, by decide⟩⟩, by decide, by decide⟩

/-- The premise "a step completes" of every statement about `step s = .next t`: from the legal state `small`, in a
cycle with an empty script. -/
theorem witness_ParametersAreConstant : ∃ t, step small = .next t := ⟨_, rfl⟩

theorem witness_DecodeEncodeAgree :
    (Instr.rxData abcFrame).wf ⟨4, 1, 0⟩ = true ∧ (Instr.rxData abcFrame).ownsPattern = true := by decide

theorem witness_IgnoredPortFieldsHaveNoEffect :
    let I : Sample := Sample.idle
    let J : Sample := { Sample.idle with
      busWe := true, busAddr := 4, busWdata := 7, rxdFrame := abcFrame, rxaFrame := ack0 }
    (J.rstN = I.rstN ∧ J.busValid = I.busValid ∧ J.rxdValid = I.rxdValid ∧ J.rxaValid = I.rxaValid ∧
      J.tick = I.tick ∧ J.dataLost = I.dataLost ∧ J.ackLost = I.ackLost ∧
      (I.busValid = true → J.busWe = I.busWe ∧ J.busAddr = I.busAddr) ∧
      (I.busValid = true → I.busWe = true → J.busWdata = I.busWdata) ∧
      (I.rxdValid = true → J.rxdFrame = I.rxdFrame) ∧ (I.rxaValid = true → J.rxaFrame = I.rxaFrame)) ∧ J ≠ I := by
  decide

theorem witness_MkDataBuildsValidFrames :
    Params.legal ⟨4, 1, 0⟩ = true ∧ [1, 2, 3, 4].length ≤ 4 ∧ 4 < [1, 2, 3, 4, 5].length := by decide

theorem witness_MkAckBuildsTheTwoAcks : (1 : Byte).toNat ≤ 1 := by decide

theorem witness_SingleBitErrorsAreDetected :
    Params.legal ⟨4, 1, 0⟩ = true ∧ abcFrame.fits ⟨4, 1, 0⟩ = true ∧ abcFrame.valid ⟨4, 1, 0⟩ = true ∧
      2 < abcFrame.len.toNat := by decide

theorem witness_PayloadBeyondLenIsIgnored :
    (∀ k, k < abcFrame.len.toNat → [0x41, 0x42, 0x43, 0x77].getD k (0 : Byte) = abcFrame.payload.getD k 0) ∧
      [0x41, 0x42, 0x43, 0x77] ≠ abcFrame.payload := by decide

theorem witness_ReorderedPayloadIsUndetected :
    let g : DataFrame := { abcFrame with payload := [0x42, 0x41, 0x43, 0] }
    abcFrame.valid ⟨4, 1, 0⟩ = true ∧ g.type = abcFrame.type ∧ g.seq = abcFrame.seq ∧ g.len = abcFrame.len ∧
      g.csum = abcFrame.csum ∧ g.body.Perm abcFrame.body ∧ g.body ≠ abcFrame.body := by decide

/-- Clauses: busy; empty; too large at its lower bound; accepted at both ends of its range. -/
theorem witness_StartFollowsItsChecks :
    small.params.legal = true ∧ waiting.txState = .awaitingAck ∧ (small.txState = .idle ∧ small.msgLen = 0) ∧
      (let s : State := { staged with msgLen := 4 }
       s.txState = .idle ∧ s.params.maxDataSize ≤ s.msgLen.toNat) ∧
      (let s : State := { staged with msgLen := 1 }
       s.txState = .idle ∧ 1 ≤ s.msgLen.toNat ∧ s.msgLen.toNat < s.params.maxDataSize) ∧
      (staged.txState = .idle ∧ 1 ≤ staged.msgLen.toNat ∧ staged.msgLen.toNat < staged.params.maxDataSize) := by
  decide

theorem witness_AcksAreAcceptedOrDiscarded :
    (waiting.txState = .awaitingAck ∧ ack0.type = 0x02 ∧ ack0.ack = waiting.txSeq.setWidth 8 ∧
      ack0.csum = 0x2 + ack0.ack.setWidth 32) ∧
    ¬(waiting.txState = .awaitingAck ∧ ack1.type = 0x02 ∧ ack1.ack = waiting.txSeq.setWidth 8 ∧
      ack1.csum = 0x2 + ack1.ack.setWidth 32) := by decide

/-- The three clauses, the timer at and just past TIMEOUT_TICKS, RETRY just below and at MAX_RETRIES. -/
theorem witness_TimeoutRetransmitsOrFails :
    (expired.txState = .awaitingAck ∧ expired.params.timeoutTicks < expired.timer.toNat ∧
      expired.retry.toNat < expired.params.maxRetries) ∧
    (spent.txState = .awaitingAck ∧ spent.params.timeoutTicks < spent.timer.toNat ∧
      spent.params.maxRetries ≤ spent.retry.toNat) ∧
    ¬(waiting.txState = .awaitingAck ∧ waiting.params.timeoutTicks < waiting.timer.toNat) := by decide

theorem witness_TickCountsTimeAndTimer :
    (waiting.txState = .awaitingAck ∧ waiting.restarted = false ∧ waiting.timer.toNat < 2 ^ 32 - 1) ∧
    (let s : State := { waiting with timer := 0xFFFFFFFE }
     s.txState = .awaitingAck ∧ s.restarted = false ∧ s.timer.toNat < 2 ^ 32 - 1) ∧
    small.txState = .idle ∧ ({ waiting with restarted := true } : State).restarted = true ∧
    ({ waiting with timer := 0xFFFFFFFF } : State).timer.toNat = 2 ^ 32 - 1 := by decide

/-- The three clauses; the ack of the first one is accepted, the others are discarded. -/
theorem witness_AckBeatsTimeout :
    let s0 : State := { expired with script := [withAck scriptNone ack0] }
    let s1 : State := { expired with script := [withAck scriptNone ack1] }
    let s2 : State := { spent with script := [withAck scriptNone ack1] }
    (s0.sample.rstN = true ∧ s0.sample.rxaValid = true ∧ s0.txState = .awaitingAck ∧
      s0.params.timeoutTicks < s0.timer.toNat ∧ s0.sample.rxaFrame.valid = true ∧
      s0.sample.rxaFrame.ack = s0.txSeq.setWidth 8 ∧ nextIs (step s0) (fun _ => true) = true) ∧
    (s1.sample.rxaValid = true ∧ s1.sample.rxaFrame.ack ≠ s1.txSeq.setWidth 8 ∧
      s1.retry.toNat < s1.params.maxRetries ∧ nextIs (step s1) (fun t => t.retry == 1) = true) ∧
    (s2.sample.rxaValid = true ∧ s2.sample.rxaFrame.ack ≠ s2.txSeq.setWidth 8 ∧
      s2.params.maxRetries ≤ s2.retry.toNat ∧ nextIs (step s2) (fun t => t.status.err == 4) = true) := by decide

theorem witness_NoTimeoutAfterSend :
    nextIs (runInstrs scriptStart.sample.earlyInstrs staged.beginCycle) (fun t => t.restarted) = true := by decide

/-- An accepted START changes TXF and emits it. -/
theorem witness_TxfChangesOnlyByAcceptedStart :
    (({ staged with script := [scriptStart] } : State).sample.rstN = true) ∧
      nextIs (stepWith staged scriptStart) (fun t => !(t.txf.csum == staged.txf.csum)) = true := by decide

theorem witness_EmittedDataFrameIsTxf :
    nextIs (stepWith expired scriptNone) (fun t => t.out.txd == some abcFrame) = true := by decide

/-- Each writer, in a cycle that changes the number: an accepted ack, an accepted frame, a START with PERSIST = 0. -/
theorem witness_SequenceNumbersHaveTheirWriters :
    nextIs (stepWith waiting (withAck scriptNone ack0)) (fun t => t.txSeq != waiting.txSeq) = true ∧
      nextIs (stepWith small (withData scriptNone abcFrame)) (fun t => t.rxExp != small.rxExp) = true ∧
      nextIs (stepWith { staged with txSeq := 1, rxExp := 1 } scriptStart) (fun t => t.txSeq == 0 && t.rxExp == 0) = true ∧
      nextIs (stepWith { staged with txSeq := 1, cfg := ⟨false, true, false⟩ } scriptStart) (fun t => t.txSeq == 1)
        = true := by decide

/-- Each side of both equivalences: an ack that ends a message, a message that goes on, a START, no START. -/
theorem witness_TransmitterTransitions :
    nextIs (stepWith waiting (withAck scriptNone ack0)) (fun t => t.txState == .idle) = true ∧
      nextIs (stepWith waiting scriptNone) (fun t => t.txState == .awaitingAck) = true ∧
      nextIs (stepWith staged scriptStart) (fun t => t.txState == .awaitingAck) = true ∧
      nextIs (stepWith { staged with msgLen := 4 } scriptStart) (fun t => t.txState == .idle) = true := by decide

theorem witness_OutcomeChangesOnlyAtTermination :
    nextIs (stepWith spent scriptNone)
      (fun t => t.txState == .idle && t.status.done && !spent.status.done && t.status.err == 4) = true ∧
      nextIs (stepWith small scriptStart) (fun t => t.status.err != small.status.err) = true := by decide

theorem witness_IdleIsQuiescent :
    let s : State := { small with script := [quietTick] }
    s.params.legal = true ∧ s.txState = .idle ∧ s.sample = { Sample.idle with tick := true } := by decide

theorem witness_RxDataSelectsOneBranch :
    badFrame.valid small.params = false ∧
      (abcFrame.valid small.params = true ∧ abcFrame.seq = small.rxExp.setWidth 8) ∧
      (zFrame.valid small.params = true ∧ zFrame.seq ≠ small.rxExp.setWidth 8) := by decide

theorem witness_SelectedOperationsNeedTheirGuard :
    ¬(zFrame.valid small.params = true ∧ zFrame.seq = small.rxExp.setWidth 8) ∧
      ¬(badFrame.valid small.params = true ∧ badFrame.seq ≠ small.rxExp.setWidth 8) ∧
      abcFrame.valid small.params = true ∧
      ¬(waiting.txState = .awaitingAck ∧ ack1.valid = true ∧ ack1.ack = waiting.txSeq.setWidth 8) ∧
      (waiting.txState = .awaitingAck ∧ ack0.valid = true ∧ ack0.ack = waiting.txSeq.setWidth 8) ∧
      ¬(spent.retry.toNat < spent.params.maxRetries) ∧ ¬(expired.params.maxRetries ≤ expired.retry.toNat) := by decide

theorem witness_ExpectedFrameIsAccepted :
    small.params.legal = true ∧ abcFrame.valid small.params = true ∧ abcFrame.seq = small.rxExp.setWidth 8 := by decide

theorem witness_OtherFrameIsADuplicate :
    zFrame.valid small.params = true ∧ zFrame.seq ≠ small.rxExp.setWidth 8 ∧ small.cfg.reackDup = false ∧
      ({ small with cfg := ⟨true, false, false⟩ } : State).cfg.reackDup = true := by decide

theorem witness_BadFrameIsDropped :
    ({ abcFrame with type := 2 } : DataFrame).type ≠ 0x01 ∧ 1 < ({ abcFrame with seq := 2 } : DataFrame).seq.toNat ∧
      small.params.maxDataSize < ({ abcFrame with len := 5 } : DataFrame).len.toNat ∧
      badFrame.csum ≠ checksum badFrame.image := by decide

theorem witness_ReceiverStateChangesOnlyByAcceptance :
    nextIs (stepWith small (withData scriptNone abcFrame))
      (fun t => t.rxLen != small.rxLen && t.out.txa == some ack0) = true := by decide

theorem witness_EmittedAckAnswersItsFrame :
    nextIs (stepWith small (withData scriptNone abcFrame)) (fun t => t.out.txa == some ack0) = true := by decide

/-- DONE and IRQ_EN set, out of reset and in a reset cycle. -/
theorem witness_InterruptFollowsDone :
    let s : State := { small with cfg := ⟨false, false, true⟩, status := ⟨true, false, false, 1⟩ }
    nextIs (stepWith s scriptNone) (fun t => t.out.irq) = true ∧
      nextIs (stepWith s scriptReset) (fun t => !t.out.irq) = true := by decide

/-- With a tick, TIME wraps; without one it stays. -/
theorem witness_TimeCountsEveryTick :
    let s : State := { small with time := 0xFFFFFFFF }
    quietTick.sample.rstN = true ∧ nextIs (stepWith s quietTick) (fun t => t.time == 0) = true ∧
      nextIs (stepWith s scriptNone) (fun t => t.time == 0xFFFFFFFF) = true := by decide

theorem witness_CmdWriteRunsTheCommand :
    (0xFFFFFFF0 : Word).extractLsb' 0 4 = 0x0 ∧ (0x1 : Word).extractLsb' 0 4 = 0x1 ∧
      (0x2 : Word).extractLsb' 0 4 = 0x2 ∧ 3 ≤ ((0x3 : Word).extractLsb' 0 4).toNat ∧
      3 ≤ ((0xF : Word).extractLsb' 0 4).toNat := by decide

/-- Boundary addresses of the bus-error ranges, and mapped addresses beside them. -/
theorem witness_BusErrorsChangeNothing :
    let bad : Nat → Prop := fun a => a % 4 ≠ 0 ∨ (0x0048 ≤ a ∧ a ≤ 0x0FFF) ∨ 0x3000 ≤ a
    bad 0x0002 ∧ bad 0x0048 ∧ bad 0x0FFC ∧ bad 0x3000 ∧ bad 0xFFFC ∧
      ¬bad 0x0000 ∧ ¬bad 0x0044 ∧ ¬bad 0x1000 ∧ ¬bad 0x1FFC ∧ ¬bad 0x2000 ∧ ¬bad 0x2FFC := by decide

theorem witness_ReadReturnsTheMappedValue : small.params.legal = true ∧ 1023 < 1024 ∧ small.params.maxDataSize ≤ 4 := by
  decide

/-- A word inside the buffer, and the last word of the window, past the buffer. -/
theorem witness_TxBufWriteStoresItsLanes :
    small.params.legal = true ∧ (0 < 1024 ∧ 4 * 0 + 3 < small.params.maxDataSize) ∧
      (1023 < 1024 ∧ small.params.maxDataSize ≤ 4 * 1023) := by decide

theorem witness_ReadOnlyWritesAreIgnored :
    let ro : Nat → Prop := fun a =>
      a % 4 = 0 ∧ (a = 0x00C ∨ (0x018 ≤ a ∧ a ≤ 0x044) ∨ (0x2000 ≤ a ∧ a ≤ 0x2FFC))
    ro 0x00C ∧ ro 0x018 ∧ ro 0x044 ∧ ro 0x2000 ∧ ro 0x2FFC ∧ ¬ro 0x014 ∧ ¬ro 0x048 ∧ ¬ro 0x1FFC := by decide

theorem witness_WindowReadsBackWrites :
    small.params.legal = true ∧ 4 * 0 + 4 ≤ small.params.maxDataSize ∧ small.params.maxDataSize ≤ 4 * 1 ∧
      nextIs (exec (.regWrite 0x1000 0x44434241) small) (fun t => t.mem.length == 4) = true := by decide

theorem witness_ReadSeesTheStartOfItsCycle :
    let s : State := { waiting with script := [withAck (scriptRd 0x008) ack0] }
    s.sample.rstN = true ∧ s.sample.busValid = true ∧ s.sample.busWe = false ∧
      nextIs (step s) (fun _ => true) = true := by decide

/-- Events after a CLR_STATS in the cycle; a START; a retransmission. -/
theorem witness_StatisticsCountPortEvents :
    nextIs (stepWith { small with stats := ⟨9, 9, 9, 9, 9, 9, 9, 9⟩ } (withData (withAckLost scriptClrStats) abcFrame))
        (fun t => t.stats == ⟨0, 1, 1, 0, 0, 1, 0, 0⟩) = true ∧
      nextIs (stepWith { staged with time := 5 } scriptStart)
        (fun t => t.stats.framesSent == 1 && t.stats.startTime == 5 && t.stats.retransmissions == 0) = true ∧
      nextIs (stepWith expired scriptNone) (fun t => t.stats.retransmissions == 1 && t.stats.framesSent == 0) = true := by
  decide

/-- A delivery and a loss report in each direction, in lawful channels, a quiet slot, a record of the sample's own; and
the two fates over a run of cycles. -/
theorem witness_ChannelPresentsOnlyItsFrames :
    let c : Channel := ⟨⟨.either, 0, 5⟩, some ⟨abcFrame, 5, .deliver, 0⟩, some ⟨ack0, 0, .deliver, 0⟩⟩
    let d : Channel := ⟨⟨.always, 0, 5⟩, some ⟨abcFrame, 7, .drop, 0⟩, some ⟨ack0, 0, .drop, 0⟩⟩
    slotEvent c.net false c.data = .present abcFrame ∧ slotEvent c.net false c.ack = .present ack0 ∧
      slotEvent d.net false d.data = .lost ∧ slotEvent d.net false d.ack = .lost ∧
      slotEvent small.chan.net false small.chan.data = .quiet ∧ (withData scriptNone badFrame).sample.rxdValid = true ∧
      (withAck scriptNone ack1).sample.rxaValid = true ∧
      c.lawful = true ∧ d.lawful = true ∧ (c.present scriptNone).rxdValid = true ∧
      (c.present scriptNone).rxaValid = true ∧ (d.present scriptNone).dataLost = true ∧
      (d.present scriptNone).ackLost = true ∧
      Flight.lawful ⟨.never, 1, 2⟩ ⟨ack0, 0, .deliver, 1⟩ = true ∧ 1 < [true, false].length ∧
      1 ≤ 0 + ([true, false] : List Bool).dropLast.count true ∧
      Flight.lawful ⟨.always, 1, 2⟩ ⟨ack0, 0, .drop, 1⟩ = true := by decide

theorem witness_ChannelTakesEmissions :
    let s : State := { small with
      chan := ⟨⟨.either, 0, 5⟩, some ⟨abcFrame, 1, .deliver, 2⟩, some ⟨ack0, 2, .drop, 1⟩⟩, script := [quietTick] }
    Flight.event s.chan.net s.sample.tick ⟨abcFrame, 1, .deliver, 2⟩ = .quiet ∧
      Flight.event s.chan.net s.sample.tick ⟨ack0, 2, .drop, 1⟩ = .quiet ∧
      nextIs (step s) (fun t => t.out.txd == none && t.out.txa == none &&
        t.chan.data == some ⟨abcFrame, 2, .deliver, 1⟩ && t.chan.ack == some ⟨ack0, 3, .drop, 0⟩) = true := by decide

theorem witness_LosslessMessageSucceeds :
    let s : State := { staged with script := [withTick scriptStart, quietTick, quietTick] }
    s.params.legal = true ∧ s.txState = .idle ∧ 1 ≤ s.msgLen.toNat ∧ s.msgLen.toNat < s.params.maxDataSize ∧
      (s.cfg.persist = true → s.txSeq = s.rxExp) ∧ s.chan.data = none ∧ s.chan.ack = none ∧
      s.chan.net.minDelay = 0 ∧ settle s.chan.net.loss (withTick scriptStart).dataDraw.fate = .deliver ∧
      (withTick scriptStart).dataDraw.wait = 0 ∧ settle s.chan.net.loss quietTick.ackDraw.fate = .deliver ∧
      quietTick.ackDraw.wait = 0 ∧ (withTick scriptStart).sample = { commandSample 0x1 with tick := true } ∧
      quietTick.sample = { Sample.idle with tick := true } ∧
      nextIs (core.run 3 s) (fun t => t.status.success) = true := by decide

theorem witness_TotalLossFailsAfterTheBudget :
    let s : State := { staged with
      chan := ⟨⟨.always, 0, 5⟩, none, none⟩, script := withTick scriptStart :: (List.replicate 4 quietTick ++ []) }
    s.params.legal = true ∧ s.txState = .idle ∧ 1 ≤ s.msgLen.toNat ∧ s.msgLen.toNat < s.params.maxDataSize ∧
      s.chan.data = none ∧ s.chan.ack = none ∧ s.chan.net.loss = .always ∧
      (withTick scriptStart).sample = { commandSample 0x1 with tick := true } ∧
      (∀ st ∈ List.replicate 4 quietTick, st.sample = { Sample.idle with tick := true }) ∧
      (s.params.maxRetries + 1) * (s.params.timeoutTicks + 2) = 4 ∧
      nextIs (core.run 5 s) (fun t => t.status.err == 4 && t.stats.framesLost == 2) = true := by decide

/-- The invariant holds here too: with RX_EXP past TX_SEQ and the timer running. -/
theorem witness_ReackRecoversALostAck :
    let s : State := { waiting with rxExp := 1, cfg := ⟨true, false, false⟩ }
    s.Inv ∧ s.txState = .awaitingAck ∧ s.rxExp = s.txSeq ^^^ 1 ∧ s.timer.toNat ≤ s.params.timeoutTicks ∧
      s.chan.data = none ∧ s.chan.ack = none ∧ s.chan.net.minDelay = 0 ∧
      settle s.chan.net.loss quietTick.ackDraw.fate = .deliver ∧ quietTick.ackDraw.wait = 0 ∧
      s.cfg.reackDup = true ∧ waiting.cfg.reackDup = false := by
  refine ⟨⟨by decide, by decide, by decide, by decide, by decide, by decide, by decide, by decide, by decide,
    by decide, by decide, by decide,
    fun _ => ⟨by decide, by decide, by decide, by decide, by decide, by decide, by decide⟩⟩,
    by decide, by decide, by decide, by decide, by decide, by decide, by decide, by decide, by decide, by decide⟩

theorem witness_LoadMsgStagesTheMessage :
    let s : State := { small with script := scriptLoadMsg abc ++ [] }
    s.params.legal = true ∧ abc.length ≤ s.params.maxDataSize ∧ (scriptLoadMsg abc).length = 2 ∧
      s.txState = .idle ∧ s.chan.data = none := by decide

end Sys2Proof.Tests
end

section
/-! PROOFS. The scope of the block (00_scope R7): which parameter values a step refuses, that every legal step
completes, and that the reset state is safe. -/

namespace Sys2Proof.Machine

/-- The reset state is safe because every register the invariant bounds is 0, no buffer byte is listed and the
transmitter is IDLE; the parameters and the channel are the ones given. -/
theorem State.resetWith_inv {p : Params} {chan : Channel} (hp : p.legal = true) (hc : chan.lawful = true)
    (epoch : Nat) (script : List Stimulus) : (State.resetWith p epoch chan script).Inv where
  legal := hp
  memCanonical := rfl
  memInBuffers := rfl
  retryBound := Nat.zero_le _
  timerBound := Nat.zero_le _
  condKnown := ⟨Nat.zero_le _, by simp [State.resetWith]⟩
  errKnown := ⟨Nat.zero_le _, by simp [State.resetWith]⟩
  successNoErr := fun _ => rfl
  rxLenBound := Nat.zero_le _
  notRestarted := rfl
  txfFits := by simp [State.resetWith]
  chanLawful := hc
  waiting := fun h => TxState.noConfusion h

/-- The parameter values of `State.reset` (log 1) are legal. -/
theorem configParams_legal : Config.params.legal = true := by decide

/-- The channel of `State.reset` (log 10) keeps its contract: its delays are ordered and its slots empty. -/
theorem resetChannel_lawful : Channel.lawful ⟨Config.net, none, none⟩ = true := by decide

/-- Settles O4: the ranges named are `Params.legal`, and a step refuses all other values. -/
theorem stepRefusesIllegalParameters : Obligations.StepRefusesIllegalParameters := by
  intro s outside
  have illegal : s.params.legal = false := by
    rw [← Bool.not_eq_true, Params.legal_iff]
    exact outside
  exact step_illegal illegal

/-- Settles O5: a step with legal parameters ends in the state `State.edge`. -/
theorem everyLegalStepCompletes : Obligations.EveryLegalStepCompletes := by
  intro s sizeLow sizeHigh retries ticks
  have legal : s.params.legal = true := (Params.legal_iff _).2 ⟨sizeLow, sizeHigh, retries, ticks⟩
  exact ⟨s.edge, step_legal legal⟩

/-- Settles O7: `State.reset` is `State.resetWith` at legal parameters and a lawful channel. -/
theorem resetMeetsInvariant : Obligations.ResetMeetsInvariant :=
  ⟨fun _ epoch _ script hp hc => State.resetWith_inv hp hc epoch script,
    State.resetWith_inv configParams_legal resetChannel_lawful 0 []⟩

end Sys2Proof.Machine
end

section
/-! PROOFS. The sub-steps of a cycle as state functions (30_encoding R95): a step out of reset is their composition, and
for each sub-step its cases, what it leaves unchanged and the values it gives. -/

namespace Sys2Proof

/-- The cycle writes the command code `op` to CMD (R84, R191). -/
def Sample.commands (I : Sample) (op : BitVec 4) : Bool :=
  I.busValid && I.busWe && I.busAddr == 0 && I.busWdata.extractLsb' 0 4 == op

/-- The cycle writes to CMD (R184). -/
def Sample.writesCmd (I : Sample) : Bool := I.busValid && I.busWe && I.busAddr == 0

theorem Sample.commands_eq (I : Sample) (op : BitVec 4) :
    I.commands op = (I.writesCmd && I.busWdata.extractLsb' 0 4 == op) := rfl

theorem Sample.commands_iff (I : Sample) (op : BitVec 4) :
    I.commands op = true ↔
      I.busValid = true ∧ I.busWe = true ∧ I.busAddr = 0 ∧ I.busWdata.extractLsb' 0 4 = op := by
  simp [Sample.commands, and_assoc]

/-- A statistics register after the cycle's command: CLR_STATS clears it (43_host_commands R181). -/
def Sample.keptCount (I : Sample) (count : Word) : Word := if I.commands 0x2 then 0 else count

end Sys2Proof

namespace Sys2Proof.Machine

/-! ### The composition -/

/-- Sub-step 1: the bus request. -/
def busStep (I : Sample) (s : State) : State :=
  if I.busValid then after (if I.busWe then .regWrite I.busAddr I.busWdata else .regRead I.busAddr) s else s

/-- Sub-step 2: the data frame. -/
def dataStep (I : Sample) (s : State) : State := if I.rxdValid then after (.rxData I.rxdFrame) s else s

/-- Sub-step 3: the ack frame. -/
def ackStep (I : Sample) (s : State) : State := if I.rxaValid then after (.rxAck I.rxaFrame) s else s

/-- Sub-step 4: the timeout check. -/
def timeoutStep (s : State) : State := afterAll s.timeoutInstrs s

/-- Sub-steps 5 and 6: the tick and the loss reports. -/
def lateStep (I : Sample) (s : State) : State := afterAll I.lateInstrs s

/-- The state at the start of a cycle: the script advanced, `restarted` false, all outputs 0 but `irq_o`. -/
def State.cycleStart (s : State) : State := s.fetched.beginCycle

theorem State.cycleStart_eq (s : State) :
    s.cycleStart = { s with script := s.script.tail, restarted := false, out := { Outputs.zero with irq := s.irq } } :=
  rfl

@[simp] theorem State.cycleStart_frame (s : State) :
    s.cycleStart.params = s.params ∧ s.cycleStart.txState = s.txState ∧ s.cycleStart.txSeq = s.txSeq ∧
      s.cycleStart.txf = s.txf ∧ s.cycleStart.rxExp = s.rxExp ∧ s.cycleStart.rxLen = s.rxLen ∧
      s.cycleStart.rxSeq = s.rxSeq ∧ s.cycleStart.msgLen = s.msgLen ∧ s.cycleStart.cfg = s.cfg ∧
      s.cycleStart.stats = s.stats ∧ s.cycleStart.time = s.time ∧ s.cycleStart.mem = s.mem ∧
      s.cycleStart.epoch = s.epoch :=
  ⟨rfl, rfl, rfl, rfl, rfl, rfl, rfl, rfl, rfl, rfl, rfl, rfl, rfl⟩

@[simp] theorem State.cycleStart_out (s : State) : s.cycleStart.out = { Outputs.zero with irq := s.irq } := rfl

theorem afterEarly_eq (I : Sample) (s : State) :
    afterEarly I s = ackStep I (dataStep I (busStep I s.beginCycle)) := by
  rw [afterEarly, Sample.earlyInstrs_eq]
  unfold ackStep dataStep busStep
  cases I.busValid <;> cases I.busWe <;> cases I.rxdValid <;> cases I.rxaValid <;> rfl

/-! The states that sub-steps 1 to 4 of the next cycle leave. -/

abbrev State.requested (s : State) : State := busStep s.sample s.cycleStart
abbrev State.received (s : State) : State := dataStep s.sample s.requested
abbrev State.answered (s : State) : State := ackStep s.sample s.received
abbrev State.checked (s : State) : State := timeoutStep s.answered

/-- A step out of reset is its sub-steps one after another, then the end of the cycle and the channel. -/
theorem edge_running {s : State} (running : s.sample.rstN = true) :
    s.edge = ((lateStep s.sample s.checked).setRestarted false).setChan
      (s.chan.after s.stimulus (lateStep s.sample s.checked).out) := by
  simp only [State.edge, running, if_true, afterLate, afterTimeout, afterEarly_eq]
  rfl

/-- A step in reset gives the reset state, and the channel goes on. -/
theorem edge_reset {s : State} (reset : s.sample.rstN = false) :
    s.edge = State.resetWith s.params (s.epoch + 1) (s.chan.after s.stimulus .zero) s.script.tail := by
  simp only [State.edge, reset, Bool.false_eq_true, if_false]
  rfl

/-! ### Sub-step 1 -/

/-- The cycle writes a START that is accepted (41_transmitter R131). -/
def State.starts (s : State) (I : Sample) : Bool :=
  I.commands 0x1 && s.txState == .idle && decide (1 ≤ s.msgLen.toNat) &&
    decide (s.msgLen.toNat < s.params.maxDataSize)

theorem State.starts_iff (s : State) (I : Sample) :
    s.starts I = true ↔ I.commands 0x1 = true ∧ s.txState = .idle ∧ s.msgLen.toNat ≠ 0 ∧
      s.msgLen.toNat < s.params.maxDataSize := by
  simp [State.starts, and_assoc, Nat.one_le_iff_ne_zero]

/-- `t` is `s` but for what the host writes and the bus responds: neither the transmitter's registers nor the
statistics. -/
def State.SameButHost (s t : State) : Prop :=
  ∃ mem msgLen cfg status cond rxValid rdata err, t = { s with
    mem := mem, msgLen := msgLen, cfg := cfg, status := status, cond := cond, rxValid := rxValid,
    out := { s.out with busRdata := rdata, busErr := err } }

theorem decodeAddr_eq_cmd_iff (addr : Half) : decodeAddr addr = some .cmd ↔ addr = 0 := by
  constructor
  · contrapose!
    intro h
    have nonzero : addr.toNat ≠ 0 := fun h0 => h (BitVec.eq_of_toNat_eq h0)
    simp [decodeAddr, nonzero, ite_eq_iff]
  · rintro rfl
    rfl

theorem after_regRead (addr : Half) (s : State) : ∃ rdata err, after (.regRead addr) s = s.respond rdata err := by
  simp only [after, exec, execRegRead]
  split
  · exact ⟨_, _, rfl⟩
  · exact ⟨_, _, rfl⟩

theorem after_regWrite_mapped {addr : Half} {target : BusTarget} (h : decodeAddr addr = some target) (w : Word)
    (s : State) : after (.regWrite addr w) s = (s.respond 0 false).writeTarget w target := by
  simp [after, exec, execRegWrite, h]

theorem after_regWrite_unmapped {addr : Half} (h : decodeAddr addr = none) (w : Word) (s : State) :
    after (.regWrite addr w) s = s.respond 0 true := by
  simp [after, exec, execRegWrite, h]

/-- A write to another word than CMD reaches neither the transmitter nor the statistics. -/
theorem State.writeTarget_sameButHost (s : State) (w : Word) {target : BusTarget} (h : target ≠ .cmd) :
    s.SameButHost ((s.respond 0 false).writeTarget w target) := by
  cases target with
  | cmd => exact absurd rfl h
  | status => rw [State.writeTarget, State.statusWrite_eq]; exact ⟨_, _, _, _, _, _, _, _, rfl⟩
  | rxStatus =>
    rw [State.writeTarget, State.rxStatusWrite]
    split <;> exact ⟨_, _, _, _, _, _, _, _, rfl⟩
  | txBuf k =>
    rw [State.writeTarget, State.txBufWrite, State.memWrite_eq_setMem]
    exact ⟨_, _, _, _, _, _, _, _, rfl⟩
  | _ => exact ⟨_, _, _, _, _, _, _, _, rfl⟩

/-- A START that is not accepted changes STATUS and COND only (R131). -/
theorem State.startCommand_refused {s : State}
    (h : ¬(s.txState = .idle ∧ s.msgLen.toNat ≠ 0 ∧ s.msgLen.toNat < s.params.maxDataSize)) :
    ∃ status cond, s.startCommand = { s with status := status, cond := cond } := by
  rcases s.startCommand_cases with ⟨-, he⟩ | ⟨-, -, he⟩ | ⟨-, -, -, he⟩ | ⟨idle, low, high, -⟩
  · exact ⟨_, _, he⟩
  · exact ⟨_, _, he⟩
  · exact ⟨_, _, he⟩
  · exact absurd ⟨idle, low, high⟩ h

/-- A command of another code than START and CLR_STATS changes STATUS and COND at most (R180, R182). -/
theorem State.cmdWrite_other {s : State} {w : Word} (h1 : w.extractLsb' 0 4 ≠ 0x1) (h2 : w.extractLsb' 0 4 ≠ 0x2) :
    ∃ status cond, s.cmdWrite w = { s with status := status, cond := cond } := by
  by_cases h0 : w.extractLsb' 0 4 = 0x0
  · exact ⟨_, _, if_pos h0⟩
  · exact ⟨_, _, by rw [State.cmdWrite, if_neg h0, if_neg h1, if_neg h2, State.badCommand_eq]⟩

/-- A write to CMD runs the command of its word (R184, R191). -/
theorem busStep_writesCmd {I : Sample} (h : I.writesCmd = true) (s : State) :
    busStep I s = (s.respond 0 false).cmdWrite I.busWdata := by
  obtain ⟨⟨hv, hw⟩, ha⟩ : (I.busValid = true ∧ I.busWe = true) ∧ I.busAddr = 0 := by
    simpa [Sample.writesCmd] using h
  simp only [busStep, hv, hw, if_true]
  exact after_regWrite_mapped ((decodeAddr_eq_cmd_iff _).2 ha) _ _

/-- Every other bus request, and none, reaches neither the transmitter nor the statistics. -/
theorem busStep_sameButHost {I : Sample} (h : I.writesCmd = false) (s : State) : s.SameButHost (busStep I s) := by
  cases hv : I.busValid with
  | false =>
    rw [busStep, hv]
    exact ⟨_, _, _, _, _, _, _, _, rfl⟩
  | true =>
    cases hw : I.busWe with
    | false =>
      obtain ⟨rdata, err, he⟩ := after_regRead I.busAddr s
      simp only [busStep, hv, hw, if_true, Bool.false_eq_true, if_false, he]
      exact ⟨_, _, _, _, _, _, _, _, rfl⟩
    | true =>
      simp only [busStep, hv, hw, if_true]
      cases hd : decodeAddr I.busAddr with
      | none =>
        rw [after_regWrite_unmapped hd]
        exact ⟨_, _, _, _, _, _, _, _, rfl⟩
      | some target =>
        rw [after_regWrite_mapped hd]
        refine s.writeTarget_sameButHost _ fun hc => ?_
        rw [hc, decodeAddr_eq_cmd_iff] at hd
        simp [Sample.writesCmd, hv, hw, hd] at h

/-- The bus request of a cycle: an accepted START, CLR_STATS, or what the transmitter and the statistics do not
see. -/
theorem busStep_cases (I : Sample) (s : State) :
    (s.starts I = true ∧ I.commands 0x2 = false ∧ busStep I s = (s.respond 0 false).startCommand) ∨
      (s.starts I = false ∧ I.commands 0x2 = true ∧ busStep I s = (s.respond 0 false).clearStats) ∨
      (s.starts I = false ∧ I.commands 0x2 = false ∧ s.SameButHost (busStep I s)) := by
  cases hc : I.writesCmd with
  | false =>
    have silent (op : BitVec 4) : I.commands op = false := by simp [Sample.commands_eq, hc]
    exact .inr (.inr ⟨by simp [State.starts, silent], silent _, busStep_sameButHost hc s⟩)
  | true =>
    have code (op : BitVec 4) : I.commands op = (I.busWdata.extractLsb' 0 4 == op) := by simp [Sample.commands_eq, hc]
    rw [busStep_writesCmd hc]
    by_cases h1 : I.busWdata.extractLsb' 0 4 = 0x1
    · have run : (s.respond 0 false).cmdWrite I.busWdata = (s.respond 0 false).startCommand := by
        simp [State.cmdWrite, h1]
      rw [run]
      cases hs : s.starts I with
      | true => exact .inl ⟨rfl, by simp [code, h1], rfl⟩
      | false =>
        obtain ⟨_, _, he⟩ := State.startCommand_refused (s := s.respond 0 false) (by
          intro accepted
          have := (s.starts_iff I).2 ⟨by simp [code, h1], accepted⟩
          simp [hs] at this)
        rw [he]
        exact .inr (.inr ⟨rfl, by simp [code, h1], _, _, _, _, _, _, _, _, rfl⟩)
    · have idle : s.starts I = false := by
        rw [State.starts, code, beq_eq_false_iff_ne.2 h1]
        rfl
      by_cases h2 : I.busWdata.extractLsb' 0 4 = 0x2
      · exact .inr (.inl ⟨idle, by simp [code, h2], by simp [State.cmdWrite, h2]⟩)
      · obtain ⟨_, _, he⟩ := State.cmdWrite_other (s := s.respond 0 false) h1 h2
        rw [he]
        exact .inr (.inr ⟨idle, (code _).trans (beq_eq_false_iff_ne.2 h2), _, _, _, _, _, _, _, _, rfl⟩)

/-- What sub-step 1 leaves unchanged. -/
@[simp] theorem busStep_frame (I : Sample) (s : State) :
    (busStep I s).params = s.params ∧ (busStep I s).epoch = s.epoch ∧ (busStep I s).time = s.time ∧
      (busStep I s).rxLen = s.rxLen ∧ (busStep I s).rxSeq = s.rxSeq ∧ (busStep I s).out.txa = s.out.txa ∧
      (busStep I s).out.rxDeliver = s.out.rxDeliver ∧ (busStep I s).out.irq = s.out.irq := by
  rcases busStep_cases I s with ⟨hs, -, h⟩ | ⟨-, -, h⟩ | ⟨-, -, _, _, _, _, _, _, _, _, h⟩
  · obtain ⟨-, idle, low, high⟩ := (s.starts_iff I).1 hs
    rw [h, State.startCommand_accepted (s := s.respond 0 false) idle low high]
    simp [State.respond]
  · rw [h, State.clearStats_eq]
    simp [State.respond]
  · rw [h]
    simp

/-- The transmitter after sub-step 1: an accepted START, or nothing (R131, R133). -/
theorem busStep_transmitter (I : Sample) (s : State) :
    (busStep I s).txState = (if s.starts I then .awaitingAck else s.txState) ∧
      (busStep I s).txSeq = (if s.starts I && !s.cfg.persist then 0 else s.txSeq) ∧
      (busStep I s).rxExp = (if s.starts I && !s.cfg.persist then 0 else s.rxExp) ∧
      (busStep I s).timer = (if s.starts I then 0 else s.timer) ∧
      (busStep I s).txf = (if s.starts I then s.startFrame else s.txf) ∧
      (busStep I s).out.txd = (if s.starts I then some s.startFrame else s.out.txd) := by
  rcases busStep_cases I s with ⟨hs, -, h⟩ | ⟨hs, -, h⟩ | ⟨hs, -, _, _, _, _, _, _, _, _, h⟩
  · obtain ⟨-, idle, low, high⟩ := (s.starts_iff I).1 hs
    rw [h, State.startCommand_accepted (s := s.respond 0 false) idle low high]
    cases hp : s.cfg.persist <;> simp [hs, State.respond, hp] <;> rfl
  · rw [h, State.clearStats_eq]
    simp [hs, State.respond]
  · rw [h]
    simp [hs]

/-- The statistics after sub-step 1: CLR_STATS clears the bank, an accepted START counts its frame and latches
START_TIME, everything else leaves it (R37, R131). -/
theorem busStep_stats (I : Sample) (s : State) :
    (busStep I s).stats = {
      framesSent := I.keptCount s.stats.framesSent + (if s.starts I then 1 else 0)
      framesReceived := I.keptCount s.stats.framesReceived
      acksSent := I.keptCount s.stats.acksSent
      acksReceived := I.keptCount s.stats.acksReceived
      retransmissions := I.keptCount s.stats.retransmissions
      framesLost := I.keptCount s.stats.framesLost
      startTime := if s.starts I then s.time else I.keptCount s.stats.startTime
      endTime := I.keptCount s.stats.endTime } := by
  rcases busStep_cases I s with ⟨hs, hc, h⟩ | ⟨hs, hc, h⟩ | ⟨hs, hc, _, _, _, _, _, _, _, _, h⟩
  · obtain ⟨-, idle, low, high⟩ := (s.starts_iff I).1 hs
    rw [h, State.startCommand_accepted (s := s.respond 0 false) idle low high]
    simp only [Sample.keptCount, hs, hc, Bool.false_eq_true, if_false, if_true]
    rfl
  · rw [h, State.clearStats_eq]
    simp [Sample.keptCount, hs, show I.commands 2#4 = true from hc]
  · rw [h]
    simp [Sample.keptCount, hs, show I.commands 2#4 = false from hc]

/-! ### Sub-step 2 -/

/-- The cycle presents a data frame that the receiver accepts in the state `s` (42_receiver R160). -/
def State.takes (s : State) (I : Sample) : Bool :=
  I.rxdValid && I.rxdFrame.valid s.params && s.expects I.rxdFrame

/-- The data frame of a cycle: none, or one of the three outcomes of R160. -/
theorem dataStep_cases (I : Sample) (s : State) :
    (I.rxdValid = false ∧ s.takes I = false ∧ dataStep I s = s) ∨
      (I.rxdValid = true ∧ s.takes I = false ∧ dataStep I s = s.incFramesReceived.rxDrop) ∨
      (I.rxdValid = true ∧ s.takes I = true ∧ dataStep I s = s.incFramesReceived.rxAccept I.rxdFrame) ∨
      (I.rxdValid = true ∧ s.takes I = false ∧ dataStep I s = s.incFramesReceived.rxDuplicate I.rxdFrame) := by
  cases hv : I.rxdValid with
  | false => exact .inl ⟨rfl, by simp [State.takes, hv], by simp [dataStep, hv]⟩
  | true =>
    have run : dataStep I s = after (.rxData I.rxdFrame) s := by simp [dataStep, hv]
    rw [run]
    rcases after_rxData I.rxdFrame s with ⟨bad, h⟩ | ⟨good, next, h⟩ | ⟨good, old, h⟩
    · exact .inr (.inl ⟨rfl, by simp [State.takes, bad], h⟩)
    · exact .inr (.inr (.inl ⟨rfl, by simp [State.takes, State.expects, hv, good, next], h⟩))
    · exact .inr (.inr (.inr ⟨rfl, by simp [State.takes, State.expects, old], h⟩))

/-- What sub-step 2 leaves unchanged: everything the transmitter has, and the rest of the outputs. -/
@[simp] theorem dataStep_frame (I : Sample) (s : State) :
    (dataStep I s).params = s.params ∧ (dataStep I s).epoch = s.epoch ∧ (dataStep I s).time = s.time ∧
      (dataStep I s).txState = s.txState ∧ (dataStep I s).txSeq = s.txSeq ∧ (dataStep I s).timer = s.timer ∧
      (dataStep I s).txf = s.txf ∧ (dataStep I s).out.txd = s.out.txd ∧ (dataStep I s).out.irq = s.out.irq := by
  rcases dataStep_cases I s with ⟨-, -, h⟩ | ⟨-, -, h⟩ | ⟨-, -, h⟩ | ⟨-, -, h⟩ <;> rw [h]
  · simp
  · simp [State.rxDrop_eq, State.incFramesReceived]
  · simp [State.rxAccept_eq, State.incFramesReceived]
  · rw [State.rxDuplicate_eq]
    cases hr : s.cfg.reackDup <;> simp [hr, State.incFramesReceived]

/-- A data frame that is not accepted leaves the receiver's registers and the buffers (R162, R163). -/
theorem dataStep_refused {I : Sample} {s : State} (h : s.takes I = false) :
    (dataStep I s).rxExp = s.rxExp ∧ (dataStep I s).rxLen = s.rxLen ∧ (dataStep I s).rxSeq = s.rxSeq ∧
      (dataStep I s).mem = s.mem := by
  rcases dataStep_cases I s with ⟨-, -, he⟩ | ⟨-, -, he⟩ | ⟨-, ht, -⟩ | ⟨-, -, he⟩
  · simp [he]
  · simp [he, State.rxDrop_eq, State.incFramesReceived]
  · simp [h] at ht
  · simp [he, State.rxDuplicate_eq, State.incFramesReceived]

/-- An accepted data frame is delivered (R161). -/
theorem dataStep_accepted {I : Sample} {s : State} (h : s.takes I = true) :
    (dataStep I s).rxExp = s.rxExp ^^^ 1 ∧ (dataStep I s).rxLen = I.rxdFrame.len ∧
      (dataStep I s).out.rxDeliver = true := by
  rcases dataStep_cases I s with ⟨-, ht, -⟩ | ⟨-, ht, -⟩ | ⟨-, -, he⟩ | ⟨-, ht, -⟩
  · simp [h] at ht
  · simp [h] at ht
  · simp [he, State.rxAccept_eq, State.incFramesReceived]
  · simp [h] at ht

/-- The statistics after sub-step 2 (R37): a presented frame is counted, and so is an emitted ack. -/
theorem dataStep_stats {I : Sample} {s : State} (quiet : s.out.txa = none) :
    (dataStep I s).stats = { s.stats with
      framesReceived := s.stats.framesReceived + (if I.rxdValid then 1 else 0)
      acksSent := s.stats.acksSent + (if (dataStep I s).out.txa.isSome then 1 else 0) } := by
  rcases dataStep_cases I s with ⟨hv, -, h⟩ | ⟨hv, -, h⟩ | ⟨hv, -, h⟩ | ⟨hv, -, h⟩ <;> rw [h]
  · simp [hv, quiet]
  · simp [hv, quiet, State.rxDrop_eq, State.incFramesReceived]
  · simp [hv, State.rxAccept_eq, State.incFramesReceived]
  · rw [State.rxDuplicate_eq]
    cases hr : s.cfg.reackDup <;> simp [hv, hr, quiet, State.incFramesReceived]

/-! ### Sub-step 3 -/

/-- The cycle presents an ack that the transmitter accepts in the state `s` (41_transmitter R134). -/
def State.completes (s : State) (I : Sample) : Bool := I.rxaValid && s.accepts I.rxaFrame

/-- The ack frame of a cycle: none, or one of the two outcomes of R134. -/
theorem ackStep_cases (I : Sample) (s : State) :
    (I.rxaValid = false ∧ s.completes I = false ∧ ackStep I s = s) ∨
      (I.rxaValid = true ∧ s.completes I = true ∧ ackStep I s = s.incAcksReceived.ackAccept) ∨
      (I.rxaValid = true ∧ s.completes I = false ∧ ackStep I s = s.incAcksReceived.ackDiscard) := by
  cases hv : I.rxaValid with
  | false => exact .inl ⟨rfl, by simp [State.completes, hv], by simp [ackStep, hv]⟩
  | true =>
    have run : ackStep I s = after (.rxAck I.rxaFrame) s := by simp [ackStep, hv]
    rw [run]
    rcases after_rxAck I.rxaFrame s with ⟨ok, h⟩ | ⟨bad, h⟩
    · exact .inr (.inl ⟨rfl, by simp [State.completes, hv, ok], h⟩)
    · exact .inr (.inr ⟨rfl, by simp [State.completes, bad], h⟩)

/-- What sub-step 3 leaves unchanged: everything the receiver has, TXF and the outputs. -/
@[simp] theorem ackStep_frame (I : Sample) (s : State) :
    (ackStep I s).params = s.params ∧ (ackStep I s).epoch = s.epoch ∧ (ackStep I s).time = s.time ∧
      (ackStep I s).timer = s.timer ∧ (ackStep I s).txf = s.txf ∧ (ackStep I s).rxExp = s.rxExp ∧
      (ackStep I s).rxLen = s.rxLen ∧ (ackStep I s).rxSeq = s.rxSeq ∧ (ackStep I s).mem = s.mem ∧
      (ackStep I s).out = s.out := by
  rcases ackStep_cases I s with ⟨-, -, h⟩ | ⟨-, -, h⟩ | ⟨-, -, h⟩ <;> rw [h]
  · simp
  · simp [State.ackAccept_eq, State.incAcksReceived]
  · simp [State.ackDiscard_eq, State.incAcksReceived]

/-- An accepted ack ends the message with success and moves TX_SEQ on (R135). -/
theorem ackStep_accepted {I : Sample} {s : State} (h : s.completes I = true) :
    (ackStep I s).txState = .idle ∧ (ackStep I s).txSeq = s.txSeq ^^^ 1 ∧ (ackStep I s).status.success = true := by
  rcases ackStep_cases I s with ⟨-, hc, -⟩ | ⟨-, -, he⟩ | ⟨-, hc, -⟩
  · simp [h] at hc
  · simp [he, State.ackAccept_eq, State.incAcksReceived]
  · simp [h] at hc

/-- An ack that is not accepted leaves the transmitter (R136). -/
theorem ackStep_refused {I : Sample} {s : State} (h : s.completes I = false) :
    (ackStep I s).txState = s.txState ∧ (ackStep I s).txSeq = s.txSeq ∧ (ackStep I s).status = s.status := by
  rcases ackStep_cases I s with ⟨-, -, he⟩ | ⟨-, hc, -⟩ | ⟨-, -, he⟩
  · simp [he]
  · simp [h] at hc
  · simp [he, State.ackDiscard_eq, State.incAcksReceived]

/-- An accepted ack was waited for. -/
theorem State.awaitingAck_of_completes {I : Sample} {s : State} (h : s.completes I = true) :
    s.txState = .awaitingAck := by
  simp only [State.completes, Bool.and_eq_true, State.accepts_iff] at h
  exact h.2.1

/-- The statistics after sub-step 3 (R37): a presented ack is counted, and END_TIME latched when the message ends. -/
theorem ackStep_stats (I : Sample) (s : State) :
    (ackStep I s).stats = { s.stats with
      acksReceived := s.stats.acksReceived + (if I.rxaValid then 1 else 0)
      endTime := if s.txState = .awaitingAck ∧ (ackStep I s).txState = .idle then s.time else s.stats.endTime } := by
  have same : ¬(s.txState = .awaitingAck ∧ s.txState = .idle) := fun ⟨waits, idle⟩ => by simp [waits] at idle
  rcases ackStep_cases I s with ⟨hv, -, h⟩ | ⟨hv, hc, h⟩ | ⟨hv, -, h⟩
  · simp only [h, hv, if_neg same]
    simp
  · have waits := State.awaitingAck_of_completes hc
    simp [h, hv, waits, State.ackAccept_eq, State.incAcksReceived]
  · rw [h, State.ackDiscard_eq]
    simp [hv, State.incAcksReceived, same]

/-! ### Sub-step 4 -/

/-- The timeout check: nothing, RETRANSMIT or FAIL (R137). -/
theorem timeoutStep_cases (s : State) :
    (s.timedOut = false ∧ timeoutStep s = s) ∨
      (s.timedOut = true ∧ s.budgetLeft = true ∧ timeoutStep s = s.retransmit) ∨
      (s.timedOut = true ∧ s.budgetLeft = false ∧ timeoutStep s = s.fail) := by
  rcases s.timeoutInstrs_cases with ⟨ht, h⟩ | ⟨ht, hb, h⟩ | ⟨ht, hb, h⟩ <;> rw [timeoutStep, h]
  · exact .inl ⟨ht, rfl⟩
  · exact .inr (.inl ⟨ht, hb, by simp [afterAll, after, exec, execTimeoutRetransmit, ht, hb]⟩)
  · exact .inr (.inr ⟨ht, hb, by simp [afterAll, after, exec, execTimeoutFail, ht, hb]⟩)

/-- What sub-step 4 leaves unchanged: everything the receiver has, TXF, TX_SEQ and the other outputs. -/
@[simp] theorem timeoutStep_frame (s : State) :
    (timeoutStep s).params = s.params ∧ (timeoutStep s).epoch = s.epoch ∧ (timeoutStep s).time = s.time ∧
      (timeoutStep s).txSeq = s.txSeq ∧ (timeoutStep s).txf = s.txf ∧ (timeoutStep s).rxExp = s.rxExp ∧
      (timeoutStep s).rxLen = s.rxLen ∧ (timeoutStep s).rxSeq = s.rxSeq ∧ (timeoutStep s).mem = s.mem ∧
      (timeoutStep s).out.txa = s.out.txa ∧ (timeoutStep s).out.rxDeliver = s.out.rxDeliver ∧
      (timeoutStep s).out.irq = s.out.irq := by
  rcases timeoutStep_cases s with ⟨-, h⟩ | ⟨-, -, h⟩ | ⟨-, -, h⟩ <;> rw [h]
  · simp
  · simp [State.retransmit_eq]
  · simp [State.fail_eq]

/-- No timeout without a message in flight. -/
theorem timeoutStep_idle {s : State} (h : s.txState = .idle) : timeoutStep s = s := by
  rcases timeoutStep_cases s with ⟨-, he⟩ | ⟨ht, -⟩ | ⟨ht, -⟩
  · exact he
  · simp [State.timedOut_iff, h] at ht
  · simp [State.timedOut_iff, h] at ht

/-- No timeout in the cycle in which the timer was started (R143). -/
theorem timeoutStep_timer_zero {s : State} (h : s.timer = 0) : timeoutStep s = s := by
  rcases timeoutStep_cases s with ⟨-, he⟩ | ⟨ht, -⟩ | ⟨ht, -⟩
  · exact he
  · simp [State.timedOut_iff, h] at ht
  · simp [State.timedOut_iff, h] at ht

/-- The statistics after sub-step 4 (R37), where a START of the cycle has emitted its frame and started the timer, or
nothing was emitted before: an emission without a START is a retransmission, and END_TIME is latched when the message
ends. -/
theorem timeoutStep_stats {s : State} {started : Bool} (emitted : s.out.txd.isSome = started)
    (timer : started = true → s.timer = 0) :
    (timeoutStep s).stats = { s.stats with
      retransmissions := s.stats.retransmissions +
        (if (timeoutStep s).out.txd.isSome && !started then 1 else 0)
      endTime := if s.txState = .awaitingAck ∧ (timeoutStep s).txState = .idle then s.time
        else s.stats.endTime } := by
  have same : ¬(s.txState = .awaitingAck ∧ s.txState = .idle) := fun ⟨waits, idle⟩ => by simp [waits] at idle
  cases started with
  | true => simp [timeoutStep_timer_zero (timer rfl), same]
  | false =>
    rcases timeoutStep_cases s with ⟨-, h⟩ | ⟨-, -, h⟩ | ⟨ht, -, h⟩ <;> rw [h]
    · simp [emitted, same]
    · simp [State.retransmit_eq, same]
    · have waits := (s.timedOut_iff.1 ht).1
      simp [State.fail_eq, waits, emitted]

/-! ### Sub-steps 5 and 6 -/

/-- The tick and the loss reports write TIME, TIMER and FRAMES_LOST (R141, 43_host_commands R190). -/
theorem lateStep_eq (I : Sample) (s : State) :
    lateStep I s = { s with
      time := s.time + (if I.tick then 1 else 0)
      timer := if I.tick = true ∧ s.txState = .awaitingAck ∧ s.restarted = false then timerNext s.timer else s.timer
      stats := { s.stats with framesLost :=
        s.stats.framesLost + (if I.dataLost then 1 else 0) + (if I.ackLost then 1 else 0) } } := by
  have loss (t : State) : after .lossData t = t.incFramesLost ∧ after .lossAck t = t.incFramesLost := ⟨rfl, rfl⟩
  rw [lateStep, Sample.lateInstrs_eq]
  cases I.tick <;> cases I.dataLost <;> cases I.ackLost <;>
    simp [afterAll, after_tick, loss, State.incFramesLost, State.setStats]

/-! ### The step -/

/-- A step out of reset, from the state sub-step 4 leaves. -/
theorem edge_eq {s : State} (running : s.sample.rstN = true) :
    s.edge = { s.checked with
      time := s.checked.time + (if s.sample.tick then 1 else 0)
      timer := if s.sample.tick = true ∧ s.checked.txState = .awaitingAck ∧ s.checked.restarted = false then
          timerNext s.checked.timer
        else s.checked.timer
      stats := { s.checked.stats with framesLost := s.checked.stats.framesLost +
        (if s.sample.dataLost then 1 else 0) + (if s.sample.ackLost then 1 else 0) }
      restarted := false
      chan := s.chan.after s.stimulus s.checked.out } := by
  rw [edge_running running, lateStep_eq]
  rfl

end Sys2Proof.Machine
end

section
/-! PROOFS. Every step keeps the invariant: sub-step by sub-step, with the invariant of a state inside a cycle. -/

namespace Sys2Proof.Machine

/-- The invariant inside a cycle, where `restarted` may be true (R24). -/
def State.InvInCycle (s : State) : Prop := (s.setRestarted false).Inv

theorem State.Inv.cycleStart {s : State} (h : s.Inv) : s.cycleStart.InvInCycle := by
  rw [State.cycleStart_eq]
  exact { h with notRestarted := rfl, waiting := fun waits => { h.waiting waits with } }

/-- While the transmitter waits no outcome is shown (R131). -/
theorem State.InvInCycle.noOutcome {s : State} (h : s.InvInCycle) (waits : s.txState = .awaitingAck) :
    s.status.done = false ∧ s.status.success = false ∧ s.status.err = 0 :=
  have w := h.waiting waits
  ⟨w.notDone, w.notSuccess, w.noErr⟩

/-- A register that the invariant bounds by code: COND and STATUS, written together. -/
theorem State.InvInCycle.report {s : State} (h : s.InvInCycle) {status : Status} {cond : BitVec 4}
    (condKnown : cond.toNat ≤ 0xA ∧ cond ≠ 0x3) (errKnown : status.err.toNat ≤ 0x4 ∧ status.err ≠ 0x3)
    (successNoErr : status.success = true → status.err = 0)
    (noOutcome : s.txState = .awaitingAck → status.done = false ∧ status.success = false ∧ status.err = 0) :
    State.InvInCycle { s with status := status, cond := cond } :=
  { h with
    condKnown := condKnown
    errKnown := errKnown
    successNoErr := successNoErr
    waiting := fun waits =>
      { h.waiting waits with
        notDone := (noOutcome waits).1, notSuccess := (noOutcome waits).2.1, noErr := (noOutcome waits).2.2 } }

/-- Raising another condition than InvalidPayload (R230). -/
theorem State.InvInCycle.raise {s : State} (h : s.InvInCycle) {cond : BitVec 4}
    (condKnown : cond.toNat ≤ 0xA ∧ cond ≠ 0x3) : State.InvInCycle { s with cond := cond } :=
  h.report condKnown h.errKnown h.successNoErr h.noOutcome

/-- A refused command sets CMDERR and raises a condition (R232). -/
theorem State.InvInCycle.refuse {s : State} (h : s.InvInCycle) {cond : BitVec 4}
    (condKnown : cond.toNat ≤ 0xA ∧ cond ≠ 0x3) :
    State.InvInCycle { s with status := { s.status with cmdErr := true }, cond := cond } :=
  h.report condKnown h.errKnown h.successNoErr h.noOutcome

/-- The invariant does not see the statistics and the outputs. -/
theorem State.InvInCycle.setStatsOut {s : State} (h : s.InvInCycle) (stats : Stats) (out : Outputs) :
    State.InvInCycle { s with stats := stats, out := out } :=
  { h with waiting := fun waits => { h.waiting waits with } }

/-! ### The buffers -/

theorem inBuffers_base_add (p : Params) (b : Buffer) {j : Nat} (h : j < p.maxDataSize) :
    inBuffers p (b.base + j) = true := by
  cases b <;> simp [inBuffers, Buffer.base, h]

/-- A buffer write lists existing bytes only (R65). -/
theorem State.memWrite_inBuffers {s : State} (h : (s.mem.all fun c => inBuffers s.params c.1) = true) (b : Buffer)
    (k : Nat) (bs : List Byte) : ((s.memWrite b k bs).mem.all fun c => inBuffers s.params c.1) = true :=
  s.memWrite_all (inBuffers s.params) b k bs h fun _ hj => inBuffers_base_add s.params b hj

theorem State.InvInCycle.memWrite {s : State} (h : s.InvInCycle) (b : Buffer) (k : Nat) (bs : List Byte) :
    (s.memWrite b k bs).InvInCycle := by
  rw [State.memWrite_eq_setMem]
  exact { h with
    memCanonical := s.memWrite_wf b k bs h.memCanonical
    memInBuffers := State.memWrite_inBuffers (s := s) h.memInBuffers b k bs
    waiting := fun waits => { h.waiting waits with } }

/-! ### The frame of an accepted START -/

theorem Params.size_le {p : Params} (legal : p.legal = true) : p.maxDataSize ≤ 4096 := by
  obtain ⟨-, size, -⟩ := (Params.legal_iff p).1 legal
  exact size

theorem State.startFrame_len {s : State} : s.startFrame.len = s.msgLen := by
  simp [State.startFrame]

theorem State.startFrame_valid {s : State} (legal : s.params.legal = true)
    (high : s.msgLen.toNat < s.params.maxDataSize) : s.startFrame.valid s.params = true :=
  buildData_valid (Params.size_le legal) _ (by rw [State.startPayload_length]; omega)

theorem State.startFrame_payload_length {s : State} (high : s.msgLen.toNat < s.params.maxDataSize) :
    s.startFrame.payload.length = s.params.maxDataSize :=
  buildData_payload_length _ (by rw [State.startPayload_length]; omega)

/-! ### Sub-step 1 -/

theorem State.InvInCycle.startCommand {s : State} (h : s.InvInCycle) : s.startCommand.InvInCycle := by
  have rejected (c : Cond) (hc : c = .emptyMessage ∨ c = .messageTooLarge) (idle : s.txState = .idle) :
      (s.reject c).InvInCycle := by
    rw [State.reject_eq]
    have condKnown : c.code.toNat ≤ 0xA ∧ c.code ≠ 0x3 := by rcases hc with rfl | rfl <;> decide
    have errKnown : c.code.toNat ≤ 0x4 ∧ c.code ≠ 0x3 := by rcases hc with rfl | rfl <;> decide
    exact h.report condKnown errKnown (fun success => Bool.noConfusion success) (by simp [idle])
  rcases s.startCommand_cases with ⟨-, he⟩ | ⟨idle, -, he⟩ | ⟨idle, -, -, he⟩ | ⟨-, low, high, he⟩ <;>
    rw [he]
  · exact h.refuse (by decide)
  · exact rejected _ (.inl rfl) idle
  · exact rejected _ (.inr rfl) idle
  · exact { h with
      retryBound := Nat.zero_le _
      timerBound := Nat.zero_le _
      condKnown := (by decide : (0x0 : BitVec 4).toNat ≤ 0xA ∧ (0x0 : BitVec 4) ≠ 0x3)
      errKnown := (by decide : (0 : BitVec 4).toNat ≤ 0x4 ∧ (0 : BitVec 4) ≠ 0x3)
      successNoErr := fun _ => rfl
      notRestarted := rfl
      txfFits := State.startFrame_payload_length high
      waiting := fun _ => {
        frameValid := State.startFrame_valid h.legal high
        frameSeq := rfl
        lenLow := by simpa [State.startFrame_len, Nat.one_le_iff_ne_zero] using low
        lenHigh := by simpa [State.startFrame_len] using high
        notDone := rfl
        notSuccess := rfl
        noErr := rfl } }

theorem State.InvInCycle.cmdWrite {s : State} (h : s.InvInCycle) (w : Word) : (s.cmdWrite w).InvInCycle := by
  rcases s.cmdWrite_cases w with he | he | he | he <;> rw [he]
  · exact h
  · exact h.startCommand
  · exact h.setStatsOut _ s.out
  · exact h.refuse (by decide)

theorem State.InvInCycle.writeTarget {s : State} (h : s.InvInCycle) (w : Word) (target : BusTarget) :
    (s.writeTarget w target).InvInCycle := by
  cases target with
  | cmd => exact h.cmdWrite w
  | cfg => exact { h with waiting := fun waits => { h.waiting waits with } }
  | msgLen => exact { h with waiting := fun waits => { h.waiting waits with } }
  | status =>
    rw [State.writeTarget, State.statusWrite_eq]
    refine h.report h.condKnown h.errKnown h.successNoErr fun waits => ?_
    obtain ⟨done, success, err⟩ := h.noOutcome waits
    exact ⟨by simp [done], success, err⟩
  | rxStatus =>
    rw [State.writeTarget, State.rxStatusWrite]
    split
    · exact { h with waiting := fun waits => { h.waiting waits with } }
    · exact h
  | txBuf k =>
    rw [State.writeTarget, State.txBufWrite]
    exact h.memWrite _ _ _
  | _ => exact h

theorem State.InvInCycle.busStep {s : State} (h : s.InvInCycle) (I : Sample) : (busStep I s).InvInCycle := by
  have responded (rdata : Word) (err : Bool) : (s.respond rdata err).InvInCycle := h.setStatsOut s.stats _
  rw [Machine.busStep]
  cases I.busValid with
  | false => exact h
  | true =>
    cases I.busWe with
    | false =>
      obtain ⟨rdata, err, he⟩ := after_regRead I.busAddr s
      simpa [he] using responded rdata err
    | true =>
      cases hd : decodeAddr I.busAddr with
      | none => simpa [after_regWrite_unmapped hd] using responded 0 true
      | some target => simpa [after_regWrite_mapped hd] using (responded 0 false).writeTarget I.busWdata target

/-! ### Sub-steps 2 to 4 -/

theorem State.InvInCycle.dataStep {s : State} (h : s.InvInCycle) (I : Sample) : (dataStep I s).InvInCycle := by
  rcases dataStep_cases I s with ⟨-, -, he⟩ | ⟨-, -, he⟩ | ⟨-, takes, he⟩ | ⟨-, -, he⟩ <;> rw [he]
  · exact h
  · exact (h.setStatsOut _ s.out).raise (by decide)
  · have valid : I.rxdFrame.valid s.params = true := by
      simp only [State.takes, Bool.and_eq_true] at takes
      exact takes.1.2
    rw [State.rxAccept_eq]
    obtain ⟨-, -, len, -⟩ := (DataFrame.valid_iff _ _).1 valid
    exact { h with
      memCanonical := State.memWrite_wf _ _ _ _ h.memCanonical
      memInBuffers := State.memWrite_inBuffers (s := s.incFramesReceived) h.memInBuffers _ _ _
      rxLenBound := len
      waiting := fun waits => { h.waiting waits with } }
  · rw [State.rxDuplicate_eq]
    exact (h.raise (by decide)).setStatsOut _ _

theorem State.InvInCycle.ackStep {s : State} (h : s.InvInCycle) (I : Sample) : (ackStep I s).InvInCycle := by
  rcases ackStep_cases I s with ⟨-, -, he⟩ | ⟨-, -, he⟩ | ⟨-, -, he⟩ <;> rw [he]
  · exact h
  · rw [State.ackAccept_eq]
    exact { h with
      retryBound := Nat.zero_le _
      errKnown := (by decide : (0 : BitVec 4).toNat ≤ 0x4 ∧ (0 : BitVec 4) ≠ 0x3)
      successNoErr := fun _ => rfl
      waiting := fun waits => TxState.noConfusion waits }
  · exact (h.setStatsOut _ s.out).raise (by decide)

theorem State.InvInCycle.timeoutStep {s : State} (h : s.InvInCycle) : (timeoutStep s).InvInCycle := by
  rcases timeoutStep_cases s with ⟨-, he⟩ | ⟨-, budget, he⟩ | ⟨-, -, he⟩ <;> rw [he]
  · exact h
  · have retries : s.retry.toNat < s.params.maxRetries := s.budgetLeft_iff.1 budget
    obtain ⟨-, -, room, -⟩ := (Params.legal_iff s.params).1 h.legal
    have counted : (s.retry + 1).toNat ≤ s.params.maxRetries := by
      have : (s.retry + 1).toNat = (s.retry.toNat + 1) % 256 := BitVec.toNat_add _ _
      omega
    rw [State.retransmit_eq]
    exact { h with
      retryBound := counted
      timerBound := Nat.zero_le _
      condKnown := (by decide : (0x7 : BitVec 4).toNat ≤ 0xA ∧ (0x7 : BitVec 4) ≠ 0x3)
      notRestarted := rfl
      waiting := fun waits => { h.waiting waits with } }
  · rw [State.fail_eq]
    exact { h with
      condKnown := (by decide : (0x4 : BitVec 4).toNat ≤ 0xA ∧ (0x4 : BitVec 4) ≠ 0x3)
      errKnown := (by decide : (0x4 : BitVec 4).toNat ≤ 0x4 ∧ (0x4 : BitVec 4) ≠ 0x3)
      successNoErr := fun success => Bool.noConfusion success
      waiting := fun waits => TxState.noConfusion waits }

/-- After the timeout check a transmitter that still waits has not timed out, so one tick keeps the bound of R141. -/
theorem timeoutStep_timer_le {s : State} (waits : (timeoutStep s).txState = .awaitingAck) :
    (timeoutStep s).timer.toNat ≤ s.params.timeoutTicks := by
  rcases timeoutStep_cases s with ⟨running, he⟩ | ⟨-, -, he⟩ | ⟨-, -, he⟩ <;> rw [he] at waits ⊢
  · have := s.timedOut_iff.not.1 (by simp [running])
    push Not at this
    exact this waits
  · exact Nat.zero_le _
  · exact TxState.noConfusion waits

/-! ### Sub-steps 5 and 6 -/

theorem timerNext_toNat_le (t : Word) : (timerNext t).toNat ≤ t.toNat + 1 := by
  unfold timerNext
  split
  · omega
  · rw [BitVec.toNat_add]
    exact Nat.mod_le _ _

theorem State.InvInCycle.lateStep {s : State} (h : s.InvInCycle)
    (running : s.txState = .awaitingAck → s.timer.toNat ≤ s.params.timeoutTicks) (I : Sample) :
    (lateStep I s).InvInCycle := by
  have bound : (Machine.lateStep I s).timer.toNat ≤ s.params.timeoutTicks + 1 := by
    rw [lateStep_eq]
    dsimp only
    split
    case isTrue counts =>
      have := timerNext_toNat_le s.timer
      have := running counts.2.1
      omega
    case isFalse => exact h.timerBound
  rw [lateStep_eq] at bound ⊢
  exact { h with timerBound := bound, waiting := fun waits => { h.waiting waits with } }

/-! ### The step -/

/-- Settles O8: in reset by the reset state, else sub-step by sub-step; the channel keeps its own contract. -/
theorem stepKeepsInvariant : Obligations.StepKeepsInvariant := by
  intro s t inv stepped
  obtain ⟨-, rfl⟩ := (step_next_iff s t).1 stepped
  have lawful (o : Outputs) : (s.chan.after s.stimulus o).lawful = true := Channel.after_lawful inv.chanLawful _ _
  cases running : s.sample.rstN with
  | false =>
    rw [edge_reset running]
    exact State.resetWith_inv inv.legal (lawful _) _ _
  | true =>
    have early := ((inv.cycleStart.busStep s.sample).dataStep s.sample).ackStep s.sample
    have late : (lateStep s.sample s.checked).InvInCycle :=
      early.timeoutStep.lateStep (fun waits => by
        simpa using timeoutStep_timer_le waits) s.sample
    rw [edge_running running]
    exact { late with chanLawful := lawful _, waiting := fun waits => { late.waiting waits with } }

end Sys2Proof.Machine
end

section
/-! PROOFS. What a step does to each register, read off the sub-steps: who writes TXF, the sequence numbers, the
receiver's registers, the outputs, TIME and the statistics. -/

namespace Sys2Proof.Machine

/-! ### Constants, the interrupt and TIME -/

/-- Settles O9: no sub-step writes the parameters, and a reset cycle keeps them. -/
theorem parametersAreConstant : Obligations.ParametersAreConstant := by
  intro s t stepped
  obtain ⟨-, rfl⟩ := (step_next_iff s t).1 stepped
  cases running : s.sample.rstN with
  | false => rw [edge_reset running]; rfl
  | true =>
    rw [edge_eq running]
    simp

/-- Settles O51: `irq_o` is set at the start of the cycle, and no sub-step drives it again. -/
theorem interruptFollowsDone : Obligations.InterruptFollowsDone := by
  intro s t stepped
  obtain ⟨-, rfl⟩ := (step_next_iff s t).1 stepped
  cases running : s.sample.rstN with
  | false => rw [edge_reset running]; rfl
  | true =>
    rw [edge_eq running]
    simp [State.irq]

/-- Settles O53: TICK is the only sub-step that writes TIME. -/
theorem timeCountsEveryTick : Obligations.TimeCountsEveryTick := by
  intro s t stepped running
  obtain ⟨-, rfl⟩ := (step_next_iff s t).1 stepped
  rw [edge_eq running]
  simp

/-! ### The transmitter -/

/-- The start of a cycle does not change what makes a START accepted. -/
@[simp] theorem State.cycleStart_starts (s : State) (I : Sample) : s.cycleStart.starts I = s.starts I := rfl

/-- Settles O26: sub-step 1 is the only one that writes TXF, and it does so only by an accepted START. -/
theorem txfChangesOnlyByAcceptedStart : Obligations.TxfChangesOnlyByAcceptedStart := by
  intro s t stepped running changed
  obtain ⟨-, rfl⟩ := (step_next_iff s t).1 stepped
  have txf : s.edge.txf = if s.starts s.sample then s.cycleStart.startFrame else s.txf := by
    rw [edge_eq running]
    simp [busStep_transmitter]
  cases starts : s.starts s.sample with
  | false => exact absurd (by simpa [starts] using txf) changed
  | true =>
    obtain ⟨commands, idle, low, high⟩ := (s.starts_iff _).1 starts
    obtain ⟨valid, write, cmd, op⟩ := (s.sample.commands_iff _).1 commands
    exact ⟨valid, write, cmd, op, idle, Nat.one_le_iff_ne_zero.2 low, high⟩

/-- What an emitted data frame is, while no sub-step has ended its message with a failure (R133, R138). -/
def State.EmitsTxf (s : State) : Prop :=
  ∀ f, s.out.txd = some f → f = s.txf ∧ (s.txState = .awaitingAck ∨ s.status.success = true)

/-- Before the timeout check a data frame is emitted by an accepted START only, which starts the timer. -/
theorem answered_txd (s : State) :
    s.answered.out.txd =
      if s.starts s.sample then some s.startFrame else none := by
  simp only [ackStep_frame, dataStep_frame, busStep_transmitter, State.cycleStart_starts]
  rfl

theorem answered_timer (s : State) (starts : s.starts s.sample = true) :
    s.answered.timer = 0 := by
  simp [busStep_transmitter, starts]

theorem ackStep_emitsTxf {I : Sample} {s : State} (h : s.out.txd = some s.txf) (waits : s.txState = .awaitingAck) :
    (ackStep I s).EmitsTxf := by
  intro f emitted
  simp only [ackStep_frame, h, Option.some.injEq] at emitted
  refine ⟨by simp [emitted], ?_⟩
  cases done : s.completes I with
  | true => exact .inr (ackStep_accepted done).2.2
  | false => exact .inl ((ackStep_refused done).1.trans waits)

theorem timeoutStep_emitsTxf {s : State} (quiet : s.out.txd = none) : (timeoutStep s).EmitsTxf := by
  intro f emitted
  rcases timeoutStep_cases s with ⟨-, he⟩ | ⟨timedOut, -, he⟩ | ⟨-, -, he⟩ <;> rw [he] at emitted ⊢
  · simp [quiet] at emitted
  · rw [State.retransmit_eq] at emitted ⊢
    exact ⟨(Option.some.inj emitted).symm, .inl (s.timedOut_iff.1 timedOut).1⟩
  · simp [State.fail_eq, quiet] at emitted

/-- Settles O27: a START emits TXF in sub-step 1 and a retransmission in sub-step 4, never both in one cycle. -/
theorem emittedDataFrameIsTxf : Obligations.EmittedDataFrameIsTxf := by
  intro s t f stepped emitted
  obtain ⟨-, rfl⟩ := (step_next_iff s t).1 stepped
  cases running : s.sample.rstN with
  | false => rw [edge_reset running] at emitted; exact nomatch emitted
  | true =>
    have checked : s.checked.EmitsTxf := by
      have txd := answered_txd s
      cases starts : s.starts s.sample with
      | false => exact timeoutStep_emitsTxf (by simpa [starts] using txd)
      | true =>
        rw [State.checked, timeoutStep_timer_zero (answered_timer s starts)]
        exact ackStep_emitsTxf (by simp [busStep_transmitter, starts]) (by simp [busStep_transmitter, starts])
    rw [edge_eq running] at emitted ⊢
    exact checked f emitted

/-! ### The sequence numbers -/

theorem dataStep_rxExp (I : Sample) (s : State) :
    (dataStep I s).rxExp = if s.takes I then s.rxExp ^^^ 1 else s.rxExp := by
  cases h : s.takes I with
  | false => exact (dataStep_refused h).1
  | true => exact (dataStep_accepted h).1

theorem ackStep_txSeq (I : Sample) (s : State) :
    (ackStep I s).txSeq = if s.completes I then s.txSeq ^^^ 1 else s.txSeq := by
  cases h : s.completes I with
  | false => exact (ackStep_refused h).2.1
  | true => exact (ackStep_accepted h).2.1

/-- TX_SEQ after sub-step 1 (R131). -/
def State.seqStarted (s : State) : Bit := if s.starts s.sample && !s.cfg.persist then 0 else s.txSeq

/-- RX_EXP after sub-step 1 (R131). -/
def State.expStarted (s : State) : Bit := if s.starts s.sample && !s.cfg.persist then 0 else s.rxExp

/-- The cycle's data frame is accepted: it is valid and has the number that sub-step 1 left in RX_EXP. -/
theorem busStep_takes (s : State) :
    s.requested.takes s.sample =
      (s.sample.rxdValid && s.sample.rxdFrame.valid s.params &&
        s.sample.rxdFrame.seq == s.expStarted.setWidth 8) := by
  simp only [State.takes, State.expects, busStep_frame, busStep_transmitter, State.cycleStart_starts]
  rfl

/-- The cycle's ack is accepted: a message is in flight after sub-step 1, and the ack is valid and has its number. -/
theorem dataStep_completes (s : State) :
    s.received.completes s.sample =
      ((s.txState == .awaitingAck || s.starts s.sample) && s.sample.rxaValid && s.sample.rxaFrame.valid &&
        s.sample.rxaFrame.ack == s.seqStarted.setWidth 8) := by
  have waits : ((if s.starts s.sample then TxState.awaitingAck else s.txState) == .awaitingAck) =
      (s.txState == .awaitingAck || s.starts s.sample) := by
    cases s.starts s.sample <;> simp
  simp only [State.completes, State.accepts, dataStep_frame, busStep_transmitter, State.cycleStart_starts]
  rw [← waits, ← Bool.and_assoc, ← Bool.and_assoc, Bool.and_comm s.sample.rxaValid]
  rfl

/-- TX_SEQ and RX_EXP after a cycle. -/
theorem edge_sequenceNumbers {s : State} (running : s.sample.rstN = true) :
    s.edge.txSeq =
        (if s.received.completes s.sample then s.seqStarted ^^^ 1
        else s.seqStarted) ∧
      s.edge.rxExp =
        (if s.requested.takes s.sample then s.expStarted ^^^ 1 else s.expStarted) := by
  simp only [edge_eq running, timeoutStep_frame, ackStep_frame, ackStep_txSeq, dataStep_rxExp, dataStep_frame,
    busStep_transmitter, State.cycleStart_starts]
  exact ⟨rfl, rfl⟩

/-- An accepted ack ends the message with success, and no later sub-step of the cycle changes that. -/
theorem edge_acked {s : State} (running : s.sample.rstN = true)
    (acked : s.received.completes s.sample = true) :
    s.edge.txState = .idle ∧ s.edge.status.success = true := by
  obtain ⟨idle, -, success⟩ := ackStep_accepted acked
  have same : s.checked = s.answered := timeoutStep_idle idle
  rw [edge_eq running]
  exact ⟨by simpa [same] using idle, by simpa [same] using success⟩

/-- Settles O28: the numbers an accepted START leaves, then the flip of an accepted data frame (sub-step 2) and of an
accepted ack (sub-step 3). -/
theorem sequenceNumbersHaveTheirWriters : Obligations.SequenceNumbersHaveTheirWriters := by
  intro s t stepped running started cleared txSeq rxExp acked accepted
  obtain ⟨-, rfl⟩ := (step_next_iff s t).1 stepped
  have hstarted : started = s.starts s.sample := by
    rw [Bool.eq_iff_iff, State.starts_iff, Sample.commands_iff]
    simp only [started, Bool.and_eq_true, beq_iff_eq, decide_eq_true_eq, Nat.one_le_iff_ne_zero]
    tauto
  have hseq : txSeq = s.seqStarted := by simp only [txSeq, cleared, hstarted, State.seqStarted]
  have hexp : rxExp = s.expStarted := by simp only [rxExp, cleared, hstarted, State.expStarted]
  have hacked : acked = s.received.completes s.sample := by
    rw [dataStep_completes, ← hstarted, ← hseq]
  have haccepted : accepted = s.requested.takes s.sample := by
    rw [busStep_takes, ← hexp]
  obtain ⟨hTxSeq, hRxExp⟩ := edge_sequenceNumbers running
  rw [← hacked, ← hseq] at hTxSeq
  rw [← haccepted, ← hexp] at hRxExp
  refine ⟨hTxSeq, hRxExp, fun h => edge_acked running (hacked ▸ h), fun changed => ?_, fun changed => ?_⟩
  · by_contra! unwritten
    exact changed (by simp [hTxSeq, txSeq, unwritten])
  · by_contra! unwritten
    exact changed (by simp [hRxExp, rxExp, unwritten])

/-! ### The receiver -/

/-- A buffer byte depends on the parameters, the memory and the reset epoch only. -/
theorem State.bufByte_congr {s t : State} (params : t.params = s.params) (mem : t.mem = s.mem)
    (epoch : t.epoch = s.epoch) (b : Buffer) (k : Nat) : t.bufByte b k = s.bufByte b k := by
  simp only [State.bufByte, params, mem, epoch]

/-- No bus request writes RX_BUF: the host writes TX_BUF alone, and the windows do not meet (20_memory R61). -/
theorem State.writeTarget_bufByte_rx {s : State} (size : s.params.maxDataSize ≤ 4096) (w : Word) (target : BusTarget)
    (k : Nat) : (s.writeTarget w target).bufByte .rx k = s.bufByte .rx k := by
  cases target with
  | cmd =>
    obtain ⟨params, epoch, -, -, mem⟩ := s.startCommand_frame
    rcases s.cmdWrite_cases w with h | h | h | h <;> rw [State.writeTarget, h]
    · exact State.bufByte_congr params mem epoch _ _
    · rfl
    · rfl
  | status => rw [State.writeTarget, State.statusWrite_eq]; rfl
  | rxStatus => rw [State.writeTarget, State.rxStatusWrite]; split <;> rfl
  | txBuf j => rw [State.writeTarget, State.txBufWrite, State.bufByte_memWrite s size, if_neg (by simp)]
  | _ => rfl

theorem busStep_bufByte_rx {s : State} (size : s.params.maxDataSize ≤ 4096) (I : Sample) (k : Nat) :
    (busStep I s).bufByte .rx k = s.bufByte .rx k := by
  rw [busStep]
  cases I.busValid with
  | false => rfl
  | true =>
    cases I.busWe with
    | false =>
      obtain ⟨rdata, err, h⟩ := after_regRead I.busAddr s
      simp only [if_true, Bool.false_eq_true, if_false, h]
      rfl
    | true =>
      cases hd : decodeAddr I.busAddr with
      | none =>
        simp only [if_true, after_regWrite_unmapped hd]
        rfl
      | some target =>
        simp only [if_true, after_regWrite_mapped hd]
        exact State.writeTarget_bufByte_rx (s := s.respond 0 false) size _ _ _

/-- A cycle that accepts no data frame leaves RX_LEN, RX_SEQ and RX_BUF. -/
theorem edge_receiver_unchanged {s : State} (size : s.params.maxDataSize ≤ 4096) (running : s.sample.rstN = true)
    (refused : s.requested.takes s.sample = false) :
    s.edge.rxLen = s.rxLen ∧ s.edge.rxSeq = s.rxSeq ∧ ∀ k, s.edge.bufByte .rx k = s.bufByte .rx k := by
  obtain ⟨-, len, seq, mem⟩ := dataStep_refused refused
  rw [edge_eq running]
  refine ⟨by simp [len], by simp [seq], fun k => ?_⟩
  calc _ = s.requested.bufByte .rx k :=
        State.bufByte_congr (by simp) (by simp [mem]) (by simp) _ _
    _ = s.cycleStart.bufByte .rx k := busStep_bufByte_rx (by simpa using size) _ _
    _ = s.bufByte .rx k := State.bufByte_congr rfl rfl rfl _ _

/-- Settles O37: RX_ACCEPT is the only operation that writes the receiver's registers and buffer. -/
theorem receiverStateChangesOnlyByAcceptance : Obligations.ReceiverStateChangesOnlyByAcceptance := by
  intro s t stepped running changed
  obtain ⟨legal, rfl⟩ := (step_next_iff s t).1 stepped
  cases takes : s.requested.takes s.sample with
  | false =>
    obtain ⟨len, seq, bytes⟩ := edge_receiver_unchanged (Params.size_le legal) running takes
    simp [len, seq, bytes] at changed
  | true =>
    obtain ⟨-, len, deliver⟩ := dataStep_accepted takes
    rw [busStep_takes] at takes
    simp only [Bool.and_eq_true] at takes
    refine ⟨takes.1.1, takes.1.2, ?_, ?_⟩ <;> rw [edge_eq running]
    · simp [deliver]
    · simp [len]

/-! ### Writes to read-only words -/

/-- The words whose write is ignored (10_state R39). -/
def readOnlyTarget : BusTarget → Bool
  | .cond | .param0 | .param1 | .stat _ | .time | .txCsum | .rxBuf _ => true
  | .cmd | .cfg | .status | .msgLen | .rxStatus | .txBuf _ => false

theorem State.writeTarget_readOnly (s : State) (w : Word) {target : BusTarget} (h : readOnlyTarget target = true) :
    s.writeTarget w target = s := by
  cases target with
  | cmd | cfg | status | msgLen | rxStatus | txBuf _ => exact nomatch h
  | _ => rfl

/-- The addresses of the read-only words: COND, PARAM0 to TX_CSUM, and the RX_BUF window (R39, R184). -/
theorem decodeAddr_readOnly {addr : Half} (aligned : addr.toNat % 4 = 0)
    (range : addr.toNat = 0x00C ∨ (0x018 ≤ addr.toNat ∧ addr.toNat ≤ 0x044) ∨
      (0x2000 ≤ addr.toNat ∧ addr.toNat ≤ 0x2FFC)) :
    ∃ target, decodeAddr addr = some target ∧ readOnlyTarget target = true := by
  rcases range with cond | ⟨low, high⟩ | ⟨low, high⟩
  · exact ⟨.cond, by simp [decodeAddr, cond], rfl⟩
  · obtain ⟨q, hq⟩ := Nat.dvd_of_mod_eq_zero aligned
    have : 6 ≤ q := by omega
    have : q ≤ 17 := by omega
    have : addr = BitVec.ofNat 16 (4 * q) := by rw [← hq, BitVec.ofNat_toNat, BitVec.setWidth_eq]
    subst this
    interval_cases q <;> exact ⟨_, rfl, rfl⟩
  · have window : addr.toNat < 0x3000 := by omega
    refine ⟨.rxBuf (addr.toNat - 0x2000), ?_, rfl⟩
    rw [decodeAddr, if_neg (by omega)]
    iterate 19 rw [if_neg (by omega)]
    rw [if_pos ⟨low, window⟩]

/-- Settles O48: the address names a read-only word, and a write leaves such a word. -/
theorem readOnlyWritesAreIgnored : Obligations.ReadOnlyWritesAreIgnored := by
  intro s addr w a aligned range
  obtain ⟨target, decoded, ignored⟩ := decodeAddr_readOnly aligned range
  rw [exec_eq_after, after_regWrite_mapped decoded, State.writeTarget_readOnly _ _ ignored]
  rfl

/-! ### The statistics -/

/-- END_TIME latched in two sub-steps, between which an idle transmitter stays idle, is latched once. -/
theorem latched_once {a b c : TxState} (hab : a = .idle → b = .idle) (hbc : b = .idle → c = .idle) (x y : Word) :
    (if b = .awaitingAck ∧ c = .idle then x else if a = .awaitingAck ∧ b = .idle then x else y) =
      if a = .awaitingAck ∧ c = .idle then x else y := by
  cases a with
  | idle => simp [hab rfl]
  | awaitingAck =>
    cases b with
    | idle => simp [hbc rfl]
    | awaitingAck => simp

theorem ackStep_idle {I : Sample} {s : State} (h : s.txState = .idle) : (ackStep I s).txState = .idle := by
  cases done : s.completes I with
  | true => exact (ackStep_accepted done).1
  | false => exact (ackStep_refused done).1.trans h

/-- The bank after sub-step 4, from the bank and the transmitter that sub-step 1 left. -/
theorem checked_stats_eq (s : State) :
    s.checked.stats = { s.requested.stats with
      framesReceived := s.requested.stats.framesReceived + (if s.sample.rxdValid then 1 else 0)
      acksSent := s.requested.stats.acksSent + (if s.checked.out.txa.isSome then 1 else 0)
      acksReceived := s.requested.stats.acksReceived + (if s.sample.rxaValid then 1 else 0)
      retransmissions := s.requested.stats.retransmissions +
        (if s.checked.out.txd.isSome && !s.starts s.sample then 1 else 0)
      endTime := if s.requested.txState = .awaitingAck ∧ s.checked.txState = .idle then s.time
        else s.requested.stats.endTime } := by
  have txa : s.checked.out.txa = s.received.out.txa := by simp
  have idle (h : s.answered.txState = .idle) : s.checked.txState = .idle := by
    rw [State.checked, timeoutStep_idle h, h]
  have emitted := answered_txd s
  rw [txa]
  unfold State.checked at idle ⊢
  rw [timeoutStep_stats (started := s.starts s.sample) (by rw [emitted]; cases s.starts s.sample <;> rfl)
    (answered_timer s), ackStep_stats, dataStep_stats (by simp [Outputs.zero])]
  simp only [ackStep_frame, dataStep_frame, busStep_frame, State.cycleStart_frame]
  rw [latched_once (fun h => ackStep_idle (by simpa using h)) idle]

/-- Settles O54: sub-step 1 counts a START or clears the bank, sub-steps 2 to 4 count frames, acks and retransmissions,
sub-step 6 counts the losses. -/
theorem statisticsCountPortEvents : Obligations.StatisticsCountPortEvents := by
  intro s t stepped running command cleared started ended from' one
  obtain ⟨-, rfl⟩ := (step_next_iff s t).1 stepped
  have hstarted : started = s.starts s.sample := rfl
  have hended : ended = true ↔ s.requested.txState = .awaitingAck ∧ s.checked.txState = .idle := by
    have : s.edge.txState = s.checked.txState := by rw [edge_eq running]
    rw [(busStep_transmitter _ _).1, State.cycleStart_starts]
    cases h : s.starts s.sample <;> simp [ended, hstarted, h, this]
  have losses : s.edge.stats = { s.checked.stats with
      framesLost := s.checked.stats.framesLost + one s.sample.dataLost + one s.sample.ackLost } := by
    rw [edge_eq running]
  have outputs : s.edge.out = s.checked.out := by rw [edge_eq running]
  rw [losses, outputs, checked_stats_eq, busStep_stats, State.cycleStart_starts]
  simp only [State.cycleStart_frame, ← hended]
  exact ⟨rfl, rfl, rfl, rfl, rfl, rfl, rfl, rfl⟩

end Sys2Proof.Machine
end

section
/-! PROOFS. The host bus (20_memory): which addresses are a bus error, the response of a read and of a write, the
TX_BUF window, and that a read sees the state at the start of its cycle. -/

namespace Sys2Proof.Machine

/-! ### Addresses -/

/-- The bus errors of R63: misaligned, between the registers and the windows, or above the windows. -/
theorem decodeAddr_eq_none_iff (addr : Half) :
    decodeAddr addr = none ↔
      addr.toNat % 4 ≠ 0 ∨ (0x0048 ≤ addr.toNat ∧ addr.toNat ≤ 0x0FFF) ∨ 0x3000 ≤ addr.toNat := by
  simp only [decodeAddr, ite_eq_iff, reduceCtorEq, and_false, and_true, false_or]
  omega

/-- Word `word` of the TX_BUF window (R61). -/
theorem decodeAddr_txBuf {word : Nat} (h : word < 1024) :
    decodeAddr (BitVec.ofNat 16 (0x1000 + 4 * word)) = some (.txBuf (4 * word)) := by
  have address : (BitVec.ofNat 16 (0x1000 + 4 * word)).toNat = 0x1000 + 4 * word :=
    Nat.mod_eq_of_lt (by omega)
  simp only [decodeAddr, address, ite_eq_iff, Option.some.injEq, reduceCtorEq, and_false, false_or,
    BusTarget.txBuf.injEq]
  omega

/-! ### Reads -/

theorem after_regRead_mapped {addr : Half} {target : BusTarget} (h : decodeAddr addr = some target) (s : State) :
    after (.regRead addr) s = s.respond (s.readTarget target) false := by
  simp [after, exec, execRegRead, h]

theorem after_regRead_unmapped {addr : Half} (h : decodeAddr addr = none) (s : State) :
    after (.regRead addr) s = s.respond 0 true := by
  simp [after, exec, execRegRead, h]

/-- The start of a cycle changes no word that the host reads. -/
theorem State.cycleStart_readTarget (s : State) (target : BusTarget) :
    s.cycleStart.readTarget target = s.readTarget target := by
  cases target <;> rfl

/-! ### The bus response -/

/-- `t` has the bus response of `s`. -/
def State.SameResponse (s t : State) : Prop := t.out.busRdata = s.out.busRdata ∧ t.out.busErr = s.out.busErr

theorem State.SameResponse.trans {s t u : State} (h : s.SameResponse t) (h' : t.SameResponse u) : s.SameResponse u :=
  ⟨h'.1.trans h.1, h'.2.trans h.2⟩

/-- A read in sub-step 1 answers as it would on S (20_memory R66). -/
theorem after_regRead_cycleStart (addr : Half) (s : State) :
    (after (.regRead addr) s).SameResponse (after (.regRead addr) s.cycleStart) := by
  cases decoded : decodeAddr addr with
  | none =>
    rw [after_regRead_unmapped decoded, after_regRead_unmapped decoded]
    exact ⟨rfl, rfl⟩
  | some target =>
    rw [after_regRead_mapped decoded, after_regRead_mapped decoded, State.cycleStart_readTarget]
    exact ⟨rfl, rfl⟩

/-- START emits on `txd` at most, and has no part in the bus response (41_transmitter R131). -/
theorem State.startCommand_sameResponse (s : State) : s.SameResponse s.startCommand := by
  rcases s.startCommand_cases with ⟨-, h⟩ | ⟨-, -, h⟩ | ⟨-, -, -, h⟩ | ⟨-, -, -, h⟩ <;> rw [h] <;>
    exact ⟨rfl, rfl⟩

/-- Whatever a write does to its word, the response is the one REG_WRITE gave (R184). -/
theorem State.writeTarget_sameResponse (s : State) (w : Word) (target : BusTarget) :
    s.SameResponse (s.writeTarget w target) := by
  cases target with
  | cmd =>
    rcases s.cmdWrite_cases w with h | h | h | h <;> rw [State.writeTarget, h]
    · exact ⟨rfl, rfl⟩
    · exact s.startCommand_sameResponse
    · exact ⟨rfl, rfl⟩
    · exact ⟨rfl, rfl⟩
  | status => rw [State.writeTarget, State.statusWrite_eq]; exact ⟨rfl, rfl⟩
  | rxStatus => rw [State.writeTarget, State.rxStatusWrite]; split <;> exact ⟨rfl, rfl⟩
  | txBuf k => simp [State.writeTarget, State.txBufWrite, State.SameResponse]
  | _ => exact ⟨rfl, rfl⟩

/-- A data frame drives `txa` and `rx_deliver_o`, not the bus (42_receiver R160). -/
theorem dataStep_sameResponse (I : Sample) (s : State) : s.SameResponse (dataStep I s) := by
  rcases dataStep_cases I s with ⟨-, -, h⟩ | ⟨-, -, h⟩ | ⟨-, -, h⟩ | ⟨-, -, h⟩ <;> rw [h]
  · exact ⟨rfl, rfl⟩
  · exact ⟨rfl, rfl⟩
  · rw [State.rxAccept_eq]; exact ⟨rfl, rfl⟩
  · rw [State.rxDuplicate_eq]
    simp only [State.SameResponse]
    split <;> exact ⟨rfl, rfl⟩

/-- A timeout drives `txd`, not the bus (41_transmitter R137). -/
theorem timeoutStep_sameResponse (s : State) : s.SameResponse (timeoutStep s) := by
  rcases timeoutStep_cases s with ⟨-, h⟩ | ⟨-, -, h⟩ | ⟨-, -, h⟩ <;> rw [h] <;> exact ⟨rfl, rfl⟩

/-- The bus response of a step out of reset is the one of its sub-step 1. -/
theorem edge_sameResponse {s : State} (running : s.sample.rstN = true) : s.requested.SameResponse s.edge := by
  have answered : s.received.SameResponse s.answered := by simp [State.SameResponse]
  have checked : s.requested.SameResponse s.checked :=
    ((dataStep_sameResponse _ _).trans answered).trans (timeoutStep_sameResponse _)
  rw [edge_eq running]
  exact checked

/-! ### The TX_BUF window -/

/-- Lane `j` of a write to the window goes to byte `k + j`, if that byte exists (43_host_commands R189). -/
theorem State.bufByte_txBufWrite {s : State} (size : s.params.maxDataSize ≤ 4096) (w : Word) {k j : Nat}
    (lane : j < 4) (exist : k + j < s.params.maxDataSize) : (s.txBufWrite k w).bufByte .tx (k + j) = laneOf w j := by
  rw [State.txBufWrite, State.bufByte_memWrite s size, if_pos (by simp [lane, exist]), Nat.add_sub_cancel_left]
  interval_cases j <;> rfl

theorem State.windowWord_txBufWrite {s : State} (size : s.params.maxDataSize ≤ 4096) (w : Word) {k : Nat}
    (exist : k + 4 ≤ s.params.maxDataSize) : (s.txBufWrite k w).windowWord .tx k = w := by
  have byte {j : Nat} (lane : j < 4) : (s.txBufWrite k w).bufByte .tx (k + j) = laneOf w j :=
    State.bufByte_txBufWrite size w lane (by omega)
  have first : (s.txBufWrite k w).bufByte .tx k = laneOf w 0 := byte (j := 0) (by decide)
  rw [State.windowWord, first, byte (by decide), byte (by decide), byte (by decide), wordOfLanes_laneOf]

/-- A window word past the buffer reads 0 (20_memory R65). -/
theorem State.windowWord_outside (s : State) (b : Buffer) {k : Nat} (h : s.params.maxDataSize ≤ k) :
    s.windowWord b k = 0 := by
  rw [State.windowWord, s.bufByte_outside b h, s.bufByte_outside b (by omega), s.bufByte_outside b (by omega),
    s.bufByte_outside b (by omega)]
  rfl

/-! ### The statements -/

/-- Settles O43: the addresses of R63 are those that decode to nothing, and no write touches the response. -/
theorem busErrorsChangeNothing : Obligations.BusErrorsChangeNothing := by
  intro s addr w a bad
  have decoded : decodeAddr addr = none ↔ bad := decodeAddr_eq_none_iff addr
  rw [exec_eq_after, exec_eq_after]
  constructor
  · intro isBad
    have unmapped := decoded.2 isBad
    rw [after_regRead_unmapped unmapped, after_regWrite_unmapped unmapped]
    exact ⟨rfl, rfl⟩
  · intro isGood
    obtain ⟨target, mapped⟩ := Option.ne_none_iff_exists'.1 (decoded.not.2 isGood)
    obtain ⟨data, err⟩ := (s.respond 0 false).writeTarget_sameResponse w target
    rw [after_regRead_mapped mapped, after_regWrite_mapped mapped]
    exact ⟨⟨_, rfl, rfl⟩, _, rfl, err, data⟩

/-- Settles O44: REG_READ sets the bus response and nothing else. -/
theorem readsHaveNoSideEffects : Obligations.ReadsHaveNoSideEffects := by
  intro s addr
  obtain ⟨data, err, read⟩ := after_regRead addr s
  exact ⟨data, err, by rw [exec_eq_after, read, State.respond, State.setOut]⟩

/-- Settles O49: the read finds the four lanes the write stored, or four bytes that do not exist. -/
theorem windowReadsBackWrites : Obligations.WindowReadsBackWrites := by
  intro s t word w legal inWindow written
  have decoded := decodeAddr_txBuf inWindow
  rw [exec_eq_after, after_regWrite_mapped decoded] at written
  obtain rfl : (s.respond 0 false).txBufWrite (4 * word) w = t := Host.Outcome.next.inj written
  have full := State.windowWord_txBufWrite (s := s.respond 0 false) (Params.size_le legal) w (k := 4 * word)
  refine ⟨_, ?_, full, fun past => State.windowWord_outside _ _ ?_⟩
  · rw [exec_eq_after, after_regRead_mapped decoded, State.readTarget, State.respond, State.setOut]
  · simpa [State.txBufWrite, State.respond] using past

/-- Settles O50: sub-step 1 reads words that still have their value of S, and no later sub-step touches the
response. -/
theorem readSeesTheStartOfItsCycle : Obligations.ReadSeesTheStartOfItsCycle := by
  intro s t u stepped running valid isRead read
  obtain ⟨-, rfl⟩ := (step_next_iff s t).1 stepped
  rw [exec_eq_after] at read
  obtain rfl := Host.Outcome.next.inj read
  have requested : s.requested = after (.regRead s.sample.busAddr) s.cycleStart := by
    simp [State.requested, busStep, valid, isRead]
  have response := edge_sameResponse running
  rw [requested] at response
  exact (after_regRead_cycleStart _ s).trans response

end Sys2Proof.Machine
end

section
/-! PROOFS. Encodings and the cycle (30_encoding): decode and encode agree, the sub-steps run in the order of R95, and
what a cycle and its operations do not look at. -/

namespace Sys2Proof

/-- The meaningful payload is a function of LEN and the bytes below it (R80). -/
theorem DataFrame.body_congr {f : DataFrame} {payload : List Byte}
    (same : ∀ k, k < f.len.toNat → payload.getD k 0 = f.payload.getD k 0) :
    ({ f with payload := payload } : DataFrame).body = f.body :=
  List.map_congr_left fun k hk => same k (List.mem_range.1 hk)

end Sys2Proof

namespace Sys2Proof.Machine

/-! ### Words -/

open Sys2Proof.Laws in
/-- Settles O10: row by row, by the round trips of `Laws/PerInstr`. -/
theorem decodeEncodeAgree : Obligations.DecodeEncodeAgree := by
  intro i
  show RoundTrip.Statement i
  cases i with
  | regRead addr => exact RoundTrip.regRead addr
  | regWrite addr w => exact RoundTrip.regWrite addr w
  | nop rest => exact RoundTrip.nop rest
  | start rest => exact RoundTrip.start rest
  | clrStats rest => exact RoundTrip.clrStats rest
  | cmdReserved3 rest => exact RoundTrip.cmdReserved3 rest
  | cmdReserved47 low rest => exact RoundTrip.cmdReserved47 low rest
  | cmdReserved8F low rest => exact RoundTrip.cmdReserved8F low rest
  | send => exact RoundTrip.send
  | rxData f => exact RoundTrip.rxData f
  | rxAccept f => exact RoundTrip.rxAccept f
  | rxDuplicate f => exact RoundTrip.rxDuplicate f
  | rxDrop f => exact RoundTrip.rxDrop f
  | rxAck a => exact RoundTrip.rxAck a
  | ackAccept a => exact RoundTrip.ackAccept a
  | ackDiscard a => exact RoundTrip.ackDiscard a
  | timeoutRetransmit => exact RoundTrip.timeoutRetransmit
  | timeoutFail => exact RoundTrip.timeoutFail
  | tick => exact RoundTrip.tick
  | lossData => exact RoundTrip.lossData
  | lossAck => exact RoundTrip.lossAck

/-- Settles O11: the decoder evaluated on each word. -/
theorem specWordsDecode : Obligations.SpecWordsDecode := by
  unfold Obligations.SpecWordsDecode
  decide

/-! ### The order of the sub-steps -/

/-- The operation of a sub-step that is selected or not. -/
theorem exec_ite (b : Bool) (i : Instr) (s : State) :
    (if b then exec i s else .next s) = .next (if b then after i s else s) := by
  cases b with
  | false => rfl
  | true => exact exec_eq_after i s

/-- Sub-step 4 written out: bit 7 of the CCW selects an operation, RETRY which one (R91, 41_transmitter R137). -/
theorem timeoutStep_eq (s : State) :
    (if s.txState = .awaitingAck ∧ s.params.timeoutTicks < s.timer.toNat then
        exec (if s.retry.toNat < s.params.maxRetries then .timeoutRetransmit else .timeoutFail) s
      else .next s) = .next (timeoutStep s) := by
  rw [timeoutStep, State.timeoutInstrs]
  simp only [← State.timedOut_iff, ← State.budgetLeft_iff]
  cases s.timedOut with
  | false => rfl
  | true =>
    cases s.budgetLeft with
    | false => exact exec_eq_after .timeoutFail s
    | true => exact exec_eq_after .timeoutRetransmit s

/-- Sub-steps 5 and 6 one after another: the tick, the data loss, the ack loss. -/
theorem lateStep_steps (I : Sample) (s : State) :
    lateStep I s =
      let ticked := if I.tick then after .tick s else s
      let counted := if I.dataLost then after .lossData ticked else ticked
      if I.ackLost then after .lossAck counted else counted := by
  rw [lateStep, Sample.lateInstrs_eq]
  cases I.tick <;> cases I.dataLost <;> cases I.ackLost <;> rfl

/-- A cycle out of reset is its sub-steps one after another. -/
theorem cycle_eq_steps {I : Sample} (running : I.rstN = true) (s : State) :
    cycle I s =
      .next (lateStep I (timeoutStep (ackStep I (dataStep I (busStep I s.beginCycle))))).endCycle := by
  rw [cycle_running running, afterLate, afterTimeout, afterEarly_eq]
  rfl

/-- Settles O3: the sub-steps of `cycle_eq_steps`, each selected by its port or by R137. -/
theorem cycleRunsSubStepsInOrder : Obligations.CycleRunsSubStepsInOrder := by
  intro I s
  refine ⟨fun reset => cycle_reset reset s, fun running => ?_⟩
  simp only [cycle_eq_steps running, exec_ite, andThen_next, timeoutStep_eq, lateStep_steps]
  rfl

/-! ### What a cycle does not look at -/

/-- Settles O12: a cycle out of reset is its lists of operations, and a port with its valid bit 0 adds none. -/
theorem ignoredPortFieldsHaveNoEffect : Obligations.IgnoredPortFieldsHaveNoEffect := by
  intro I J s rstN busValid rxdValid rxaValid tick dataLost ackLost request wdata dataFrame ackFrame
  have late : J.lateInstrs = I.lateInstrs := by
    simp only [Sample.lateInstrs_eq, tick, dataLost, ackLost]
  have bus : busInstrs J.ccw J = busInstrs I.ccw I := by
    rw [busInstrs_ccw, busInstrs_ccw, busValid]
    cases valid : I.busValid with
    | false => rfl
    | true =>
      obtain ⟨we, addr⟩ := request valid
      cases write : I.busWe with
      | false => simp [we, addr, write]
      | true => simp [we, addr, write, wdata valid write]
  have data : dataInstrs J.ccw J = dataInstrs I.ccw I := by
    rw [dataInstrs_ccw, dataInstrs_ccw, rxdValid]
    cases valid : I.rxdValid with
    | false => rfl
    | true => simp [dataFrame valid]
  have ack : ackInstrs J.ccw J = ackInstrs I.ccw I := by
    rw [ackInstrs_ccw, ackInstrs_ccw, rxaValid]
    cases valid : I.rxaValid with
    | false => rfl
    | true => simp [ackFrame valid]
  simp only [cycle, rstN, Sample.earlyInstrs, bus, data, ack, late]

/-- Settles O17: validity and RX_ACCEPT read the payload through `DataFrame.body`, the other outcomes of RX_DATA not at
all. -/
theorem payloadBeyondLenIsIgnored : Obligations.PayloadBeyondLenIsIgnored := by
  intro p f payload same
  have body := DataFrame.body_congr same
  have valid (p : Params) : ({ f with payload := payload } : DataFrame).valid p = f.valid p := by
    simp only [DataFrame.valid, DataFrame.wf, DataFrame.verify, DataFrame.image, body]
  have accept (t : State) : t.rxAccept { f with payload := payload } = t.rxAccept f := by
    simp only [State.rxAccept_eq, body]
  refine ⟨valid p, body, fun s => ?_⟩
  simp only [exec, execRxData, valid, accept]
  rfl

/-! ### Guards -/

/-- Sub-step 1 starts the timer by an accepted START only (41_transmitter R133). -/
theorem busStep_restarted (I : Sample) (s : State) :
    (busStep I s).restarted = (s.starts I || s.restarted) := by
  rcases busStep_cases I s with ⟨hs, -, h⟩ | ⟨hs, -, h⟩ | ⟨hs, -, _, _, _, _, _, _, _, _, h⟩
  · obtain ⟨-, idle, low, high⟩ := (s.starts_iff I).1 hs
    rw [h, State.startCommand_accepted (s := s.respond 0 false) idle low high]
    simp [hs]
  · rw [h, State.clearStats_eq]
    simp [hs, State.respond]
  · rw [h]
    simp [hs]

theorem dataStep_restarted (I : Sample) (s : State) : (dataStep I s).restarted = s.restarted := by
  rcases dataStep_cases I s with ⟨-, -, h⟩ | ⟨-, -, h⟩ | ⟨-, -, h⟩ | ⟨-, -, h⟩ <;> rw [h]
  · rw [State.rxDrop_eq]; rfl
  · rw [State.rxAccept_eq]; rfl
  · rw [State.rxDuplicate_eq]; rfl

theorem ackStep_restarted (I : Sample) (s : State) : (ackStep I s).restarted = s.restarted := by
  rcases ackStep_cases I s with ⟨-, -, h⟩ | ⟨-, -, h⟩ | ⟨-, -, h⟩ <;> rw [h]
  · rfl
  · rfl

theorem State.timedOut_timer_zero {s : State} (h : s.timer = 0) : s.timedOut = false := by
  simp [State.timedOut, h]

/-- Settles O25: only an accepted START restarts the timer in sub-steps 1 to 3, and it leaves TIMER = 0, which no
TIMEOUT_TICKS is below (R137). -/
theorem noTimeoutAfterSend : Obligations.NoTimeoutAfterSend := by
  intro I s t ran restarted
  rw [runInstrs_eq_afterAll] at ran
  obtain rfl : afterEarly I s = t := Host.Outcome.next.inj ran
  rw [afterEarly_eq] at restarted ⊢
  have starts : s.beginCycle.starts I = true := by
    simpa [ackStep_restarted, dataStep_restarted, busStep_restarted, State.beginCycle] using restarted
  have timer : (ackStep I (dataStep I (busStep I s.beginCycle))).timer = 0 := by
    simp [busStep_transmitter, starts]
  rw [State.timeoutInstrs, State.timedOut_timer_zero timer]
  rfl

/-- Settles O33: the condition of each operation's meaning is the guard, and its other branch the state itself. -/
theorem selectedOperationsNeedTheirGuard : Obligations.SelectedOperationsNeedTheirGuard := by
  intro s f a accepted expired
  have expects : s.expects f = true ↔ f.seq = s.rxExp.setWidth 8 := by simp [State.expects]
  have accepts : s.accepts a = true ↔ accepted := by simp [State.accepts, accepted, and_assoc]
  have timedOut : s.timedOut = true ↔ expired := s.timedOut_iff
  have budget : s.budgetLeft = true ↔ s.retry.toNat < s.params.maxRetries := s.budgetLeft_iff
  rw [ne_eq, ← expects, ← accepts, ← timedOut, ← Nat.not_lt, ← budget]
  exact ⟨fun guard => congrArg _ (if_neg (by simpa using guard)),
    fun guard => congrArg _ (if_neg (by simpa using guard)),
    fun valid => congrArg _ (if_pos valid),
    fun guard => congrArg _ (if_neg guard),
    fun guard => congrArg _ (if_pos guard),
    fun guard => congrArg _ (if_neg (by simpa using guard)),
    fun guard => congrArg _ (if_neg (by simpa using guard))⟩

end Sys2Proof.Machine
end

section
/-! PROOFS. A step whose sample triggers one operation runs that operation, with the timeout check in its place
(30_encoding R91, R92, R95). -/

namespace Sys2Proof

theorem rowMatches_timeout (ccw : Byte) : rowMatches 0x80 0x80 ccw = ccw.getLsbD 7 := by
  revert ccw
  decide

/-- The CCW byte of an image is the CCW of the image's sample, unless it has bit 7, which is no input (R91). -/
theorem sampleOfImage_ccw {ccw : Byte} (internal : ccw.getLsbD 7 = false) (bs : List Byte) :
    (sampleOfImage (ccw :: bs)).ccw = ccw := by
  obtain ⟨h0, h1, h2, h3, h4, h5, h6, h7⟩ := (sampleOfImage (ccw :: bs)).ccw_bits
  apply BitVec.eq_of_getLsbD_eq
  intro i hi
  interval_cases i
  · exact h0
  · exact h1
  · exact h2
  · exact h3
  · exact h4
  · exact h5
  · exact h6
  · exact h7.trans internal.symm

/-- An image that decodes to another operation than TIMEOUT_RETRANSMIT selects exactly that operation on the ports of
its sample. -/
theorem selected_of_decode {bs : List Byte} {i : Instr} (decoded : decode .ccw bs = .ok i)
    (port : i ≠ .timeoutRetransmit) :
    (sampleOfImage bs).earlyInstrs ++ (sampleOfImage bs).lateInstrs = [i] := by
  cases bs with
  | nil => exact nomatch decoded
  | cons ccw bs =>
    have selected : selectedInstrs ccw (sampleOfImage (ccw :: bs)) = [i] := by
      simp only [decode, decodeImage] at decoded
      split at decoded
      · exact nomatch decoded
      · next j h => rw [h, Except.ok.inj decoded]
      · exact nomatch decoded
    have internal : ccw.getLsbD 7 = false := by
      by_contra bit
      have mem : Instr.timeoutRetransmit ∈ selectedInstrs ccw (sampleOfImage (ccw :: bs)) := by
        have row : timeoutPattern ccw = [.timeoutRetransmit] :=
          if_pos ((rowMatches_timeout ccw).trans (Bool.eq_true_of_not_eq_false bit))
        simp [selectedInstrs, row]
      rw [selected, List.mem_singleton] at mem
      exact port mem.symm
    rw [← selectedInstrs_ccw, sampleOfImage_ccw internal, selected]

/-- The operations of sub-steps 5 and 6. -/
theorem Sample.mem_lateInstrs {I : Sample} {i : Instr} (h : i ∈ I.lateInstrs) :
    i = .tick ∨ i = .lossData ∨ i = .lossAck := by
  rw [Sample.lateInstrs_eq] at h
  simp only [List.mem_append, List.mem_ite_nil_right, List.mem_singleton] at h
  tauto

/-- The operations of sub-steps 1 to 3 are none of those of sub-steps 5 and 6. -/
theorem Sample.mem_earlyInstrs {I : Sample} {i : Instr} (h : i ∈ I.earlyInstrs) :
    ¬(i = .tick ∨ i = .lossData ∨ i = .lossAck) := by
  rw [Sample.earlyInstrs_eq] at h
  cases write : I.busWe <;> rintro (rfl | rfl | rfl) <;> simp [write] at h

end Sys2Proof

namespace Sys2Proof.Machine

/-- A step out of reset runs the operations its sample selects, with sub-step 4 between them (R95). -/
theorem step_running {s : State} (legal : s.params.legal = true) (running : s.sample.rstN = true) :
    step s = andThen (runInstrs s.sample.earlyInstrs s.cycleStart) fun t =>
      andThen (runInstrs t.timeoutInstrs t) fun u => andThen (runInstrs s.sample.lateInstrs u) fun v =>
        .next ((v.setRestarted false).setChan (s.chan.after s.stimulus v.out)) := by
  simp only [step_legal legal, State.edge, running, if_true, runInstrs_eq_afterAll, andThen_next]
  rfl

/-- Settles O1: the image's one operation is either the only one of sub-steps 1 to 3 or the only one of 5 and 6. -/
theorem stepRunsDecodedInstruction : Obligations.StepRunsDecodedInstruction := by
  intro s bs i legal _ decoded port sample s0 finish
  have running : s.sample.rstN = true := by rw [sample]; rfl
  have start : s.cycleStart = s0 := rfl
  rw [step_running legal running, start]
  have selected := selected_of_decode decoded port
  rw [← sample] at selected
  rcases List.append_eq_singleton_iff.1 selected with ⟨early, late⟩ | ⟨early, late⟩
  · have isLate := Sample.mem_lateInstrs (I := s.sample) (i := i) (by simp [late])
    refine ⟨fun notTick notData notAck => by tauto, fun _ => ?_⟩
    simp only [early, late, runInstrs_nil, runInstrs_cons, exec_eq_after, andThen_next]
    rfl
  · have isEarly := Sample.mem_earlyInstrs (I := s.sample) (i := i) (by simp [early])
    refine ⟨fun _ _ _ => ?_, fun isLate => absurd isLate isEarly⟩
    simp only [early, late, runInstrs_nil, runInstrs_cons, exec_eq_after, andThen_next]
    rfl

/-! ### Command words -/

/-- OP is bits 3:0 of the word (R84): the mask of a row of the table against the field. -/
theorem command_op (w : Word) (op : BitVec 4) :
    (w &&& 0xF#32 == op.setWidth 32) = (w.extractLsb' 0 4 == op) := by
  have masked : w &&& 0xF#32 = (w.extractLsb' 0 4).setWidth 32 := by
    apply BitVec.eq_of_toNat_eq
    simp [Nat.and_two_pow_sub_one_eq_mod _ 4]
    omega
  rw [masked, Bool.eq_iff_iff, beq_iff_eq, beq_iff_eq]
  exact ⟨fun same => by simpa using congrArg (BitVec.setWidth 4) same, congrArg _⟩

/-- The row of a command word has the effect of the word written to CMD (R85, 43_host_commands R191). -/
theorem exec_decodeCommand (w : Word) (s : State) : exec (decodeCommand w) s = .next (s.cmdWrite w) := by
  have op0 : (w &&& 0xF#32 == 0x0#32) = (w.extractLsb' 0 4 == 0x0) := command_op w 0x0
  have op1 : (w &&& 0xF#32 == 0x1#32) = (w.extractLsb' 0 4 == 0x1) := command_op w 0x1
  have op2 : (w &&& 0xF#32 == 0x2#32) = (w.extractLsb' 0 4 == 0x2) := command_op w 0x2
  simp only [decodeCommand, State.cmdWrite, op0, op1, op2, beq_iff_eq]
  split_ifs <;> rfl

/-- Settles O2: the sample's one operation is the write to CMD, whose response is the one the cycle starts with. -/
theorem stepRunsDecodedCommand : Obligations.StepRunsDecodedCommand := by
  intro s w i legal decoded sample s0
  obtain rfl : decodeCommand w = i := by
    rw [decode, decodeCommandBytes_wordImage] at decoded
    exact Except.ok.inj decoded
  have running : s.sample.rstN = true := by rw [sample]; rfl
  have bus : s.requested = s0.cmdWrite w := by
    rw [State.requested, sample]
    have start : s.cycleStart.respond 0 false = s0 := by rw [State.cycleStart_eq]; rfl
    rw [busStep_writesCmd rfl, start]
    rfl
  rw [step_legal legal, edge_running running, State.checked, State.answered, State.received, bus, sample,
    lateStep_steps, exec_decodeCommand, andThen_next, runInstrs_eq_afterAll, andThen_next]
  rfl

end Sys2Proof.Machine
end

section
/-! PROOFS. LOADMSG (30_encoding R100): what a cycle with a bus write does, and the message staged word by word. -/

namespace Sys2Proof.Machine

/-! ### What a cycle leaves of its bus request -/

theorem afterAll_script (is : List Instr) (s : State) : (afterAll is s).script = s.script :=
  afterAll_keeps (P := fun t => t.script = s.script) (fun i _ t kept => (after_frame i t).2.2.2.trans kept) rfl

/-- A step takes one entry off the script. -/
theorem edge_script {s : State} (running : s.sample.rstN = true) : s.edge.script = s.script.tail := by
  simp [State.edge, running, afterLate, afterTimeout, afterEarly, afterAll_script, State.endCycle, State.beginCycle,
    State.fetched]

theorem edge_params {s : State} (legal : s.params.legal = true) : s.edge.params = s.params :=
  parametersAreConstant s s.edge (step_legal legal)

theorem dataStep_msgLen (I : Sample) (s : State) : (dataStep I s).msgLen = s.msgLen := by
  rcases dataStep_cases I s with ⟨-, -, h⟩ | ⟨-, -, h⟩ | ⟨-, -, h⟩ | ⟨-, -, h⟩ <;> rw [h]
  · rw [State.rxDrop_eq]; rfl
  · rw [State.rxAccept_eq]; rfl
  · rw [State.rxDuplicate_eq]; rfl

theorem ackStep_msgLen (I : Sample) (s : State) : (ackStep I s).msgLen = s.msgLen := by
  rcases ackStep_cases I s with ⟨-, -, h⟩ | ⟨-, -, h⟩ | ⟨-, -, h⟩ <;> rw [h]
  · rfl
  · rfl

theorem timeoutStep_msgLen (s : State) : (timeoutStep s).msgLen = s.msgLen := by
  rcases timeoutStep_cases s with ⟨-, h⟩ | ⟨-, -, h⟩ | ⟨-, -, h⟩ <;> rw [h]
  · rw [State.retransmit_eq]
  · rw [State.fail_eq]

/-- Only the bus request writes MSG_LEN. -/
theorem edge_msgLen {s : State} (running : s.sample.rstN = true) : s.edge.msgLen = s.requested.msgLen := by
  rw [edge_eq running]
  simp only [timeoutStep_msgLen, ackStep_msgLen, dataStep_msgLen]

/-- The receiver writes RX_BUF alone (42_receiver R161). -/
theorem dataStep_bufByte_tx {s : State} (size : s.params.maxDataSize ≤ 4096) (I : Sample) (k : Nat) :
    (dataStep I s).bufByte .tx k = s.bufByte .tx k := by
  cases takes : s.takes I with
  | false =>
    obtain ⟨-, -, -, mem⟩ := dataStep_refused takes
    exact State.bufByte_congr (by simp) mem (by simp) _ _
  | true =>
    rcases dataStep_cases I s with ⟨-, h, -⟩ | ⟨-, h, -⟩ | ⟨-, -, h⟩ | ⟨-, h, -⟩
    · simp [takes] at h
    · simp [takes] at h
    · have windows : (s.incFramesReceived.memWrite .rx 0 I.rxdFrame.body).bufByte .tx k = s.bufByte .tx k := by
        rw [State.bufByte_memWrite s.incFramesReceived size, if_neg (by simp)]
        rfl
      have mem : (dataStep I s).mem = (s.incFramesReceived.memWrite .rx 0 I.rxdFrame.body).mem := by
        rw [h, State.rxAccept_eq]
      rw [← windows]
      exact State.bufByte_congr (by simp [State.incFramesReceived]) mem (by simp [State.incFramesReceived]) _ _
    · simp [takes] at h

/-- Only the bus request writes TX_BUF (20_memory R61). -/
theorem edge_bufByte_tx {s : State} (size : s.params.maxDataSize ≤ 4096) (running : s.sample.rstN = true) (k : Nat) :
    s.edge.bufByte .tx k = s.requested.bufByte .tx k := by
  rw [edge_eq running]
  calc _ = s.received.bufByte .tx k := State.bufByte_congr (by simp) (by simp) (by simp) _ _
    _ = s.requested.bufByte .tx k := dataStep_bufByte_tx (by simpa using size) _ _

/-! ### A quiet transmitter -/

/-- The transmitter is IDLE and no data frame is in flight. -/
def State.Quiet (s : State) : Prop := s.txState = .idle ∧ s.chan.data = none

/-- Without a START a quiet transmitter stays quiet: it neither retransmits nor emits. -/
theorem State.Quiet.edge {s : State} (quiet : s.Quiet) (running : s.sample.rstN = true)
    (noStart : s.starts s.sample = false) : s.edge.Quiet := by
  obtain ⟨idle, empty⟩ := quiet
  have answered : s.answered.txState = .idle := ackStep_idle (by simp [busStep_transmitter, noStart, idle])
  have checked : s.checked = s.answered := timeoutStep_idle answered
  have silent : s.checked.out.txd = none := by rw [checked, answered_txd, noStart]; rfl
  rw [edge_eq running]
  refine ⟨by rw [← answered, ← checked], ?_⟩
  simp only [Channel.after, silent, empty]
  rfl

/-! ### A cycle with a bus write -/

section
variable {s : State} {addr : Half} {w : Word} {rest : List Stimulus} {target : BusTarget}

theorem stimulus_write (script : s.script = scriptWr addr w :: rest) : s.stimulus = scriptWr addr w := by
  rw [State.stimulus, script]
  rfl

theorem running_write (script : s.script = scriptWr addr w :: rest) : s.sample.rstN = true := by
  rw [State.sample, stimulus_write script]
  rfl

/-- Sub-step 1 of the cycle is the write to its word (43_host_commands R184). -/
theorem requested_write (script : s.script = scriptWr addr w :: rest) (mapped : decodeAddr addr = some target) :
    s.requested = (s.cycleStart.respond 0 false).writeTarget w target := by
  rw [State.requested, State.sample, stimulus_write script, ← after_regWrite_mapped mapped]
  rfl

theorem starts_write (script : s.script = scriptWr addr w :: rest) (mapped : decodeAddr addr = some target)
    (noCommand : target ≠ .cmd) : s.starts s.sample = false := by
  by_contra started
  obtain ⟨command, -⟩ := (s.starts_iff _).1 (Bool.eq_true_of_not_eq_false started)
  obtain ⟨-, -, cmd, -⟩ := (s.sample.commands_iff _).1 command
  have address : s.sample.busAddr = addr := by rw [State.sample, stimulus_write script]; rfl
  rw [address, ← decodeAddr_eq_cmd_iff, mapped] at cmd
  exact noCommand (Option.some.inj cmd)

/-- With no data frame in flight the cycle presents none, and RX_BUF stays. -/
theorem bufByte_rx_write (script : s.script = scriptWr addr w :: rest) (size : s.params.maxDataSize ≤ 4096)
    (quiet : s.Quiet) (k : Nat) : s.edge.bufByte .rx k = s.bufByte .rx k := by
  have silent : s.sample.rxdValid = false := by
    rw [State.sample, stimulus_write script]
    simp only [Channel.present, quiet.2]
    rfl
  have refused : s.requested.takes s.sample = false := by simp [State.takes, silent]
  exact (edge_receiver_unchanged size (running_write script) refused).2.2 k

end

/-- The buffers at the start of a cycle and beside a bus response are those of S. -/
theorem State.bufByte_cycleStart_respond (s : State) (rdata : Word) (err : Bool) (b : Buffer) (k : Nat) :
    (s.cycleStart.respond rdata err).bufByte b k = s.bufByte b k := by
  simp only [State.respond, State.cycleStart, State.beginCycle, State.fetched, State.bufByte_setOut,
    State.bufByte_setRestarted, State.bufByte_setScript]

/-! ### LOADMSG -/

/-- Word `j` of a message, missing bytes 0 (R100). -/
def messageWord (bytes : List Byte) (j : Nat) : Word :=
  wordOfLanes (messageByte bytes (4 * j)) (messageByte bytes (4 * j + 1)) (messageByte bytes (4 * j + 2))
    (messageByte bytes (4 * j + 3))

theorem laneOf_messageWord (bytes : List Byte) (j : Nat) {lane : Nat} (h : lane < 4) :
    laneOf (messageWord bytes j) lane = bytes.getD (4 * j + lane) 0 := by
  obtain ⟨h0, h1, h2, h3⟩ := laneOf_wordOfLanes (messageByte bytes (4 * j)) (messageByte bytes (4 * j + 1))
    (messageByte bytes (4 * j + 2)) (messageByte bytes (4 * j + 3))
  interval_cases lane
  · exact h0
  · exact h1
  · exact h2
  · exact h3

/-- The write of word `j` of a message. -/
def messageWrite (bytes : List Byte) (j : Nat) : Stimulus :=
  scriptWr (BitVec.ofNat 16 (0x1000 + 4 * j)) (messageWord bytes j)

/-- The write of a message's length. -/
def lengthWrite (bytes : List Byte) : Stimulus := scriptWr 0x010 (BitVec.ofNat 32 bytes.length)

theorem scriptLoadMsg_eq (bytes : List Byte) :
    scriptLoadMsg bytes = (List.range' 0 ((bytes.length + 3) / 4)).map (messageWrite bytes) ++ [lengthWrite bytes] := by
  rw [← List.range_eq_range']
  rfl

/-- TX_BUF holds the bytes of a message below `n`. -/
def State.Holds (s : State) (bytes : List Byte) (n : Nat) : Prop :=
  ∀ k, k < n → k < bytes.length → s.bufByte .tx k = bytes.getD k 0

/-- The write of word `j` adds its four bytes to those that TX_BUF holds. -/
theorem State.Holds.txBufWrite {s : State} {bytes : List Byte} {j : Nat} (held : s.Holds bytes (4 * j))
    (size : s.params.maxDataSize ≤ 4096) (fits : bytes.length ≤ s.params.maxDataSize) :
    (s.txBufWrite (4 * j) (messageWord bytes j)).Holds bytes (4 * (j + 1)) := by
  intro k below inMessage
  by_cases old : k < 4 * j
  · rw [State.txBufWrite, State.bufByte_memWrite s size, if_neg (by omega), held k old inMessage]
  · obtain ⟨lane, rfl⟩ := Nat.exists_eq_add_of_le (Nat.le_of_not_lt old)
    rw [State.bufByte_txBufWrite size _ (by omega) (by omega), laneOf_messageWord _ _ (by omega)]

theorem run_succ_of_step {M : Host.Core} {s t : M.State} (stepped : M.step s = .next t) (n : Nat) :
    M.run (n + 1) s = M.run n t := by
  simp only [Host.Core.run, stepped]

theorem core_run_succ {s : State} (legal : s.params.legal = true) (n : Nat) :
    core.run (n + 1) s = core.run n s.edge :=
  run_succ_of_step (M := core) (step_legal legal) n

section
variable {s : State} {bytes : List Byte} {rest : List Stimulus}

/-- The cycle that writes word `j` of a message. -/
theorem State.Holds.edge_messageWrite {j : Nat} (held : s.Holds bytes (4 * j)) (legal : s.params.legal = true)
    (fits : bytes.length ≤ s.params.maxDataSize) (inWindow : j < 1024)
    (script : s.script = messageWrite bytes j :: rest) : s.edge.Holds bytes (4 * (j + 1)) := by
  have size := Params.size_le legal
  intro k below inMessage
  rw [edge_bufByte_tx size (running_write script), requested_write script (decodeAddr_txBuf inWindow)]
  have start : (s.cycleStart.respond 0 false).Holds bytes (4 * j) := fun k below inMessage =>
    (s.bufByte_cycleStart_respond _ _ _ _).trans (held k below inMessage)
  exact start.txBufWrite size fits k below inMessage

theorem decodeAddr_msgLen : decodeAddr 0x010 = some .msgLen := by decide

/-- The cycle that writes a message's length. -/
theorem edge_lengthWrite (legal : s.params.legal = true) (fits : bytes.length ≤ s.params.maxDataSize)
    (script : s.script = lengthWrite bytes :: rest) :
    s.edge.msgLen.toNat = bytes.length ∧ ∀ k, s.edge.bufByte .tx k = s.bufByte .tx k := by
  have size := Params.size_le legal
  have running := running_write script
  have written := requested_write script decodeAddr_msgLen
  rw [State.writeTarget, State.msgLenWrite] at written
  constructor
  · rw [edge_msgLen running, written]
    simp only [State.setMsgLen_msgLen, BitVec.extractLsb'_toNat, BitVec.toNat_ofNat, Nat.shiftRight_zero]
    omega
  · intro k
    rw [edge_bufByte_tx size running, written, State.bufByte_setMsgLen, State.bufByte_cycleStart_respond]

/-- A cycle of the script of LOADMSG that writes a word keeps a quiet transmitter quiet. -/
theorem State.Quiet.edge_messageWrite (quiet : s.Quiet) {j : Nat} (inWindow : j < 1024)
    (script : s.script = messageWrite bytes j :: rest) : s.edge.Quiet :=
  quiet.edge (running_write script) (starts_write script (decodeAddr_txBuf inWindow) (by simp))

/-- The last `m` words of a message and its length, from a state in which the words before stand in TX_BUF. -/
theorem run_loadMsg (m j : Nat) (legal : s.params.legal = true) (fits : bytes.length ≤ s.params.maxDataSize)
    (words : j + m = (bytes.length + 3) / 4) (held : s.Holds bytes (4 * j))
    (script : s.script = (List.range' j m).map (messageWrite bytes) ++ lengthWrite bytes :: rest) :
    ∃ t, core.run (m + 1) s = .next t ∧ t.script = rest ∧ t.msgLen.toNat = bytes.length ∧
      t.Holds bytes (4 * (j + m)) ∧ (s.Quiet → ∀ k, t.bufByte .rx k = s.bufByte .rx k) := by
  have size := Params.size_le legal
  induction m generalizing j s with
  | zero =>
    obtain ⟨len, kept⟩ := edge_lengthWrite legal fits script
    refine ⟨s.edge, core_run_succ legal 0, ?_, len, fun k below inMessage => ?_, bufByte_rx_write script size⟩
    · rw [edge_script (running_write script), script]
      rfl
    · rw [kept, held k below inMessage]
  | succ m ih =>
    have script : s.script = messageWrite bytes j ::
        ((List.range' (j + 1) m).map (messageWrite bytes) ++ lengthWrite bytes :: rest) := script
    have inWindow : j < 1024 := by omega
    have params := edge_params legal
    have left : s.edge.script = (List.range' (j + 1) m).map (messageWrite bytes) ++ lengthWrite bytes :: rest := by
      rw [edge_script (running_write script), script]
      rfl
    obtain ⟨t, ran, done, len, holds, rx⟩ := ih (j + 1) (params ▸ legal) (params ▸ fits) (by omega)
      (held.edge_messageWrite legal fits inWindow script) left (params ▸ size)
    refine ⟨t, (core_run_succ legal _).trans ran, done, len, by rwa [Nat.add_right_comm] at holds,
      fun quiet k => ?_⟩
    rw [rx (quiet.edge_messageWrite inWindow script) k, bufByte_rx_write script size quiet]

end

/-- Settles O60: word by word, from a TX_BUF of which nothing is asked yet. -/
theorem loadMsgStagesTheMessage : Obligations.LoadMsgStagesTheMessage := by
  intro s bytes rest legal fits script
  rw [scriptLoadMsg_eq] at script ⊢
  obtain ⟨t, ran, left, len, holds, rx⟩ := run_loadMsg ((bytes.length + 3) / 4) 0 legal fits (by omega)
    (fun _ below => absurd below (by omega)) (by simpa using script)
  refine ⟨t, by simpa using ran, left, len, fun k inMessage => holds k (by omega) inMessage,
    fun idle empty => rx ⟨idle, empty⟩⟩

end Sys2Proof.Machine
end

section
/-! PROOFS. The checksum and the frame builders (40_frame_checksum): the checksum as a sum of numbers, what MKDATA and
MKACK build, and which errors in a frame the checksum detects (R121). -/

namespace Sys2Proof

/-! ### The checksum -/

/-- The sum does not see the order of the bytes (R121). -/
theorem checksum_perm {as bs : List Byte} (h : as.Perm bs) : checksum as = checksum bs := by
  apply BitVec.eq_of_toNat_eq
  rw [checksum_toNat, checksum_toNat, byteSum, byteSum, (h.map _).sum_eq]

theorem setWidth_32_inj {b c : Byte} : b.setWidth 32 = c.setWidth 32 ↔ b = c := by
  constructor
  · intro same
    simpa using congrArg (BitVec.setWidth 8) same
  · exact congrArg _

/-- A byte put in the place of another changes the sum, unless the two are equal. -/
theorem checksum_set_eq_iff {bs : List Byte} {i : Nat} (h : i < bs.length) (b : Byte) :
    checksum (bs.set i b) = checksum bs ↔ b = bs[i] := by
  induction bs generalizing i with
  | nil => simp at h
  | cons c bs ih =>
    cases i with
    | zero => simp [setWidth_32_inj]
    | succ i => simp [ih (Nat.lt_of_succ_lt_succ h)]

theorem byteSum_le_of_sublist {as bs : List Byte} (h : as.Sublist bs) : byteSum as ≤ byteSum bs :=
  (h.map _).sum_le_sum fun _ _ => Nat.zero_le _

/-! ### Flipping a bit -/

theorem xor_twoPow_ne {w k : Nat} (v : BitVec w) (h : k < w) : v ^^^ BitVec.twoPow w k ≠ v := by
  intro same
  have : (v ^^^ BitVec.twoPow w k).getLsbD k = v.getLsbD k := by rw [same]
  simp [h] at this

/-- To flip a bit that is 0 is to add its weight. -/
theorem xor_twoPow_toNat {w k : Nat} {v : BitVec w} (h : k < w) (clear : v.getLsbD k = false) :
    (v ^^^ BitVec.twoPow w k).toNat = v.toNat + 2 ^ k := by
  have disjoint : v &&& BitVec.twoPow w k = 0#w := by simp [BitVec.and_twoPow, clear]
  have noCarry : v ^^^ BitVec.twoPow w k = v ||| BitVec.twoPow w k := by
    ext i hi
    have : v[i] = true → i ≠ k := by
      rintro set rfl
      simp [BitVec.getLsbD_eq_getElem hi, set] at clear
    by_cases set : v[i] = true <;> simp [set, this]
  rw [noCarry, ← BitVec.add_eq_or_of_and_eq_zero _ _ disjoint, BitVec.toNat_add_of_and_eq_zero disjoint,
    BitVec.toNat_twoPow_of_lt h]

/-! ### The bytes of LEN -/

theorem halfLane_zero_toNat (h : Half) : (halfLane h 0).toNat = h.toNat % 256 := by
  simp [halfLane]

theorem halfLane_one_toNat (h : Half) : (halfLane h 1).toNat = h.toNat / 256 := by
  have := h.isLt
  simp [halfLane, Nat.shiftRight_eq_div_pow]
  omega

/-- The two bytes of a 16-bit field, added as numbers. -/
def laneSum (h : Half) : Nat := (halfLane h 0).toNat + (halfLane h 1).toNat

/-- A bit of either byte that goes from 0 to 1 makes the sum of the two larger: nothing is carried. -/
theorem laneSum_lt_flip {h : Half} {k : Nat} (hk : k < 16) (clear : h.getLsbD k = false) :
    laneSum h < laneSum (h ^^^ BitVec.twoPow 16 k) := by
  have zero : h.toNat / 2 ^ k % 2 = 0 := by
    simpa [BitVec.getLsbD, Nat.testBit_eq_decide_div_mod_eq] using clear
  simp only [laneSum, halfLane_zero_toNat, halfLane_one_toNat, xor_twoPow_toNat hk clear]
  rcases lt_or_ge k 8 with low | high
  · interval_cases k <;> omega
  · obtain ⟨j, rfl⟩ := Nat.exists_eq_add_of_le high
    have := Nat.two_pow_pos j
    rw [pow_add]
    omega

/-! ### The image of a frame -/

theorem DataFrame.image_byteSum (f : DataFrame) :
    byteSum f.image = f.type.toNat + f.seq.toNat + laneSum f.len + byteSum f.body := by
  simp [DataFrame.image, byteSum, laneSum]
  omega

theorem DataFrame.checksum_image_toNat (f : DataFrame) : (checksum f.image).toNat = byteSum f.image := by
  have := f.len.isLt
  exact checksum_toNat_of_short (by rw [DataFrame.image_length]; omega)

theorem DataFrame.body_sublist {f g : DataFrame} (payload : g.payload = f.payload) (len : f.len.toNat ≤ g.len.toNat) :
    f.body.Sublist g.body := by
  rw [body, body, payload]
  exact (List.range_sublist.2 len).map _

theorem DataFrame.image_byteSum_lt {f g : DataFrame} (type : g.type = f.type) (seq : g.seq = f.seq)
    (payload : g.payload = f.payload) (len : f.len.toNat ≤ g.len.toNat) (lanes : laneSum f.len < laneSum g.len) :
    byteSum f.image < byteSum g.image := by
  have body := byteSum_le_of_sublist (body_sublist payload len)
  rw [image_byteSum, image_byteSum, type, seq]
  omega

/-- A bit of LEN that goes from 0 to 1 adds its own weight in its byte, and the payload bytes that now count: the sum
grows and does not wrap. -/
theorem DataFrame.checksum_len_raise_ne (f : DataFrame) {k : Nat} (hk : k < 16) (clear : f.len.getLsbD k = false) :
    checksum f.image ≠ checksum ({ f with len := f.len ^^^ BitVec.twoPow 16 k } : DataFrame).image := by
  intro same
  have grows := image_byteSum_lt (f := f) (g := { f with len := f.len ^^^ BitVec.twoPow 16 k }) rfl rfl rfl
    (xor_twoPow_toNat hk clear ▸ Nat.le_add_right _ _) (laneSum_lt_flip hk clear)
  rw [← checksum_image_toNat, ← checksum_image_toNat, same] at grows
  exact lt_irrefl _ grows

/-- A bit of LEN flipped, either way, changes the checksum of the image. -/
theorem DataFrame.checksum_len_flip_ne (f : DataFrame) {k : Nat} (hk : k < 16) :
    checksum ({ f with len := f.len ^^^ BitVec.twoPow 16 k } : DataFrame).image ≠ checksum f.image := by
  cases bit : f.len.getLsbD k with
  | false => exact (f.checksum_len_raise_ne hk bit).symm
  | true =>
    have raise := DataFrame.checksum_len_raise_ne { f with len := f.len ^^^ BitVec.twoPow 16 k } hk
      (by simp [hk, bit])
    simpa [BitVec.xor_assoc] using raise

/-- A payload byte below LEN is byte `4 + j` of the image (R111). -/
theorem DataFrame.image_set_payload (f : DataFrame) {j : Nat} (h : j < f.payload.length) (b : Byte) :
    ({ f with payload := f.payload.set j b } : DataFrame).image = f.image.set (4 + j) b := by
  have body : ({ f with payload := f.payload.set j b } : DataFrame).body = f.body.set j b := by
    apply List.ext_getElem (by simp)
    intro i hi hi'
    by_cases at_j : j = i
    · subst at_j
      simp [DataFrame.body, h]
    · simp [DataFrame.body, at_j]
  simp [DataFrame.image, body, Nat.add_comm 4 j]

theorem DataFrame.image_getElem_payload (f : DataFrame) {j : Nat} (h : j < f.len.toNat) :
    f.image[4 + j]'(by simp; omega) = f.payload.getD j 0 := by
  simp [DataFrame.image, DataFrame.body, Nat.add_comm 4 j]

theorem buildData_body {bytes : List Byte} (h : bytes.length < 2 ^ 16) (size : Nat) (seq : Bit) :
    (buildData size seq bytes).body = bytes := by
  apply List.ext_getElem (by simpa using h)
  intro i hi hi'
  simp only [DataFrame.body, buildData_payload_getD, List.getElem_map, List.getElem_range]
  simp [hi']

theorem buildData_image {bytes : List Byte} (h : bytes.length < 2 ^ 16) (size : Nat) (seq : Bit) :
    (buildData size seq bytes).image =
      [0x01, seq.setWidth 8, BitVec.ofNat 8 (bytes.length % 256), BitVec.ofNat 8 (bytes.length / 256)] ++ bytes := by
  have low : halfLane (BitVec.ofNat 16 bytes.length) 0 = BitVec.ofNat 8 (bytes.length % 256) := by
    apply BitVec.eq_of_toNat_eq
    simp [halfLane_zero_toNat]
  have high : halfLane (BitVec.ofNat 16 bytes.length) 1 = BitVec.ofNat 8 (bytes.length / 256) := by
    apply BitVec.eq_of_toNat_eq
    rw [halfLane_one_toNat, BitVec.toNat_ofNat, BitVec.toNat_ofNat]
    omega
  rw [DataFrame.image, buildData_body h, buildData_type, buildData_seq, buildData_len, low, high]

/-! ### Validity -/

theorem DataFrame.invalid_of_csum_ne {p : Params} {f : DataFrame} (h : f.csum ≠ checksum f.image) :
    f.valid p = false := by
  rw [← Bool.not_eq_true, DataFrame.valid_iff]
  rintro ⟨-, -, -, same⟩
  exact h same

/-- A frame with the checksum of a valid frame, and an image that differs from that frame's in one byte, is not
valid (R118). -/
theorem DataFrame.invalid_of_image_set {p : Params} {f g : DataFrame} {i : Nat} {b : Byte} (valid : f.valid p = true)
    (csum : g.csum = f.csum) (image : g.image = f.image.set i b) (h : i < f.image.length) (other : b ≠ f.image[i]) :
    g.valid p = false := by
  obtain ⟨-, -, -, sum⟩ := (DataFrame.valid_iff p f).1 valid
  apply invalid_of_csum_ne
  rw [csum, sum, image]
  exact fun same => other ((checksum_set_eq_iff h b).1 same.symm)

/-! ### The statements -/

/-- Settles O13: `byteSum` is the sum that it names. -/
theorem checksumIsTheByteSum : Obligations.ChecksumIsTheByteSum := checksum_toNat

/-- Settles O14: the record is `buildData`'s. -/
theorem mkDataBuildsValidFrames : Obligations.MkDataBuildsValidFrames := by
  intro p seq bytes legal
  have size := Machine.Params.size_le legal
  refine ⟨fun fits => ⟨buildData p.maxDataSize seq bytes, mkData_of_le seq fits, rfl, rfl, ?_, rfl, ?_,
    buildData_valid size seq fits⟩, fun large => if_pos large⟩
  · rw [buildData_len, BitVec.toNat_ofNat, Nat.mod_eq_of_lt (by omega)]
  · rw [buildData_csum, buildData_image (by omega)]

/-- Settles O15: `mkAck` field by field, and the only two numbers up to 1. -/
theorem mkAckBuildsTheTwoAcks : Obligations.MkAckBuildsTheTwoAcks := by
  intro n
  refine ⟨Machine.mkAck_eq n, fun legal => ⟨mkAck_valid legal, ?_⟩⟩
  have two : n = 0 ∨ n = 1 := by bv_omega
  rcases two with rfl | rfl
  · exact .inl (Machine.mkAck_eq 0)
  · exact .inr (Machine.mkAck_eq 1)

/-- Settles O16: a flip in TYPE, SEQ or the payload changes one byte of the image, a flip in CSUM the other side of the
comparison; a flip in LEN moves the end of the image too. -/
theorem singleBitErrorsAreDetected : Obligations.SingleBitErrorsAreDetected := by
  intro p f _ fits valid
  obtain ⟨-, -, inPort, sum⟩ := (DataFrame.valid_iff p f).1 valid
  refine ⟨fun k hk => ?type, fun k hk => ?seq, fun k hk => ?len, fun k hk => ?csum, fun j k hj hk => ?payload⟩
  case type => exact DataFrame.invalid_of_image_set (i := 0) valid rfl rfl (by simp) (xor_twoPow_ne _ hk)
  case seq => exact DataFrame.invalid_of_image_set (i := 1) valid rfl rfl (by simp; omega) (xor_twoPow_ne _ hk)
  case len => exact DataFrame.invalid_of_csum_ne fun same => f.checksum_len_flip_ne hk (same.symm.trans sum)
  case csum => exact DataFrame.invalid_of_csum_ne fun same => xor_twoPow_ne f.csum hk (same.trans sum.symm)
  case payload =>
    have fits : f.payload.length = p.maxDataSize := by simpa [DataFrame.fits] using fits
    refine DataFrame.invalid_of_image_set valid rfl (f.image_set_payload (by omega) _) (by simpa using hj) ?_
    rw [f.image_getElem_payload hj]
    exact xor_twoPow_ne _ hk

/-- Settles O18: the image is the same up to the order of its bytes. -/
theorem reorderedPayloadIsUndetected : Obligations.ReorderedPayloadIsUndetected := by
  intro p f g valid type seq len csum perm
  have image : g.image.Perm f.image := by
    rw [DataFrame.image, DataFrame.image, type, seq, len]
    exact perm.append_left _
  rw [DataFrame.valid_iff] at valid ⊢
  rwa [type, seq, len, csum, checksum_perm image]

end Sys2Proof
end

section
/-! PROOFS. The transmitter's operations (41_transmitter): SEND, START, the acks, the timeout and TICK. -/

namespace Sys2Proof.Machine

/-- Settles O20: SEND's updates as one. -/
theorem sendStartsTheTimer : Obligations.SendStartsTheTimer := fun s =>
  congrArg Host.Outcome.next s.send_eq

/-- The payload of an accepted START's frame: TX_BUF below MSG_LEN, then zeros (30_encoding R89, R113). -/
theorem State.startFrame_payload_getD (s : State) (k : Nat) :
    s.startFrame.payload.getD k 0 = if k < s.msgLen.toNat then s.bufByte .tx k else 0 := by
  rw [State.startFrame, buildData_payload_getD, State.startPayload, State.startLen]
  by_cases below : k < s.msgLen.toNat
  · rw [if_pos below, State.memRead_getD _ _ _ _ _ below, Nat.zero_add]
  · rw [if_neg below, List.getD_eq_default _ _ (by simpa using below)]

/-- Settles O19: the four cases of a START, and the fields of the frame that the accepted one builds. -/
theorem startFollowsItsChecks : Obligations.StartFollowsItsChecks := by
  intro s ignored legal
  obtain ⟨sizeLow, -⟩ := (Params.legal_iff _).1 legal
  refine ⟨fun busy => congrArg _ (State.startCommand_busy busy), fun idle empty => ?_, fun idle large => ?_,
    fun idle low high => ⟨s.startFrame, ?_, rfl, rfl, State.startFrame_len, State.startFrame_payload_length high,
      fun k below => ?_, fun k beyond => ?_, State.startFrame_valid legal high⟩⟩
  · exact congrArg _ (State.startCommand_empty idle (by simp [empty]))
  · exact congrArg _ (State.startCommand_large idle (by omega) large)
  · exact congrArg _ (State.startCommand_accepted idle (by omega) high)
  · rw [State.startFrame_payload_getD, if_pos below]
  · rw [State.startFrame_payload_getD, if_neg (by omega)]

/-- Settles O21: the condition is `State.accepts`, on which RX_ACK and both selected operations branch. -/
theorem acksAreAcceptedOrDiscarded : Obligations.AcksAreAcceptedOrDiscarded := by
  intro s a
  rw [← State.accepts_iff]
  constructor
  · intro accepted
    rcases after_rxAck a s with ⟨-, answered⟩ | ⟨refused, -⟩
    · rw [exec_eq_after, answered]
      exact ⟨rfl, congrArg _ (if_pos accepted)⟩
    · simp [accepted] at refused
  · intro refused
    rcases after_rxAck a s with ⟨accepted, -⟩ | ⟨-, answered⟩
    · exact absurd accepted refused
    · rw [exec_eq_after, answered]
      exact ⟨rfl, congrArg _ (if_neg refused)⟩

/-- The timer has expired and budget is left: sub-step 4 retransmits (R137, R138). -/
theorem timeoutStep_retransmits {s : State} (timer : s.timedOut = true) (budget : s.budgetLeft = true) :
    timeoutStep s = s.retransmit := by
  rcases timeoutStep_cases s with ⟨running, -⟩ | ⟨-, -, checked⟩ | ⟨-, spent, -⟩
  · simp [timer] at running
  · exact checked
  · simp [budget] at spent

/-- The timer has expired and no budget is left: sub-step 4 fails the message (R137, R139). -/
theorem timeoutStep_fails {s : State} (timer : s.timedOut = true) (spent : s.budgetLeft = false) :
    timeoutStep s = s.fail := by
  rcases timeoutStep_cases s with ⟨running, -⟩ | ⟨-, budget, -⟩ | ⟨-, -, checked⟩
  · simp [timer] at running
  · simp [spent] at budget
  · exact checked

/-- The timer has not expired: sub-step 4 does nothing (R137). -/
theorem timeoutStep_running {s : State} (running : s.timedOut = false) : timeoutStep s = s := by
  rcases timeoutStep_cases s with ⟨-, checked⟩ | ⟨timer, -⟩ | ⟨timer, -⟩
  · exact checked
  · simp [running] at timer
  · simp [running] at timer

/-- Settles O22: sub-step 4 is `timeoutStep`, and each operation's guard is the case in which it is selected. -/
theorem timeoutRetransmitsOrFails : Obligations.TimeoutRetransmitsOrFails := by
  intro s
  have selected : runInstrs s.timeoutInstrs s = .next (timeoutStep s) := runInstrs_eq_afterAll _ _
  rw [selected, ← State.timedOut_iff, ← Nat.not_lt, ← State.budgetLeft_iff]
  refine ⟨fun ⟨waits, ticks, budget⟩ => ?_, fun ⟨waits, ticks, spent⟩ => ?_, fun running => ?_⟩
  · have timer := s.timedOut_iff.2 ⟨waits, ticks⟩
    have retransmits : exec .timeoutRetransmit s = .next s.retransmit :=
      congrArg _ (if_pos (by simp [timer, budget]))
    rw [timeoutStep_retransmits timer budget, retransmits]
    exact ⟨rfl, rfl⟩
  · have timer := s.timedOut_iff.2 ⟨waits, ticks⟩
    have fails : exec .timeoutFail s = .next s.fail := congrArg _ (if_pos (by simpa [timer] using spent))
    rw [timeoutStep_fails timer (by simpa using spent), fails]
    exact ⟨rfl, rfl⟩
  · rw [timeoutStep_running (by simpa using running)]

theorem timerNext_toNat {t : Word} (room : t.toNat < 2 ^ 32 - 1) : (timerNext t).toNat = t.toNat + 1 := by
  have below : t ≠ 0xFFFFFFFF := by rintro rfl; exact absurd room (by decide)
  rw [timerNext, if_neg below]
  bv_omega

theorem timerNext_saturated {t : Word} (full : t.toNat = 2 ^ 32 - 1) : timerNext t = t :=
  if_pos (BitVec.eq_of_toNat_eq full)

/-- Settles O23: TIMER counts by `timerNext`, which saturates. -/
theorem tickCountsTimeAndTimer : Obligations.TickCountsTimeAndTimer := by
  intro s
  rw [exec_eq_after, after_tick]
  constructor
  · rintro ⟨waits, started, room⟩
    exact ⟨timerNext s.timer, timerNext_toNat room, by rw [if_pos ⟨waits, started⟩]⟩
  · rintro (idle | restarted | full)
    · simp [idle]
    · simp [restarted]
    · simp [timerNext_saturated full]

end Sys2Proof.Machine
end

section
/-! PROOFS. The transmitter over a whole cycle (41_transmitter R130, R143): the ack comes before the timeout, and which
cycles start and end a message. -/

namespace Sys2Proof.Machine

/-! ### RETRY and the message in flight -/

theorem busStep_retry (I : Sample) (s : State) : (busStep I s).retry = if s.starts I then 0 else s.retry := by
  rcases busStep_cases I s with ⟨starts, -, h⟩ | ⟨starts, -, h⟩ | ⟨starts, -, _, _, _, _, _, _, _, _, h⟩
  · obtain ⟨-, idle, low, high⟩ := (s.starts_iff I).1 starts
    rw [h, State.startCommand_accepted (s := s.respond 0 false) idle low high]
    simp [starts]
  · rw [h, State.clearStats_eq]
    simp [starts, State.respond]
  · rw [h]
    simp [starts]

theorem dataStep_retry (I : Sample) (s : State) : (dataStep I s).retry = s.retry := by
  rcases dataStep_cases I s with ⟨-, -, h⟩ | ⟨-, -, h⟩ | ⟨-, -, h⟩ | ⟨-, -, h⟩ <;> rw [h]
  · rw [State.rxDrop_eq]; rfl
  · rw [State.rxAccept_eq]; rfl
  · rw [State.rxDuplicate_eq]; rfl

theorem ackStep_retry {I : Sample} {s : State} (refused : s.completes I = false) :
    (ackStep I s).retry = s.retry := by
  rcases ackStep_cases I s with ⟨-, -, h⟩ | ⟨-, done, -⟩ | ⟨-, -, h⟩
  · rw [h]
  · simp [refused] at done
  · rw [h, State.ackDiscard_eq]; rfl

theorem ackStep_completes {I : Sample} {s : State} (done : s.completes I = true) :
    ackStep I s = s.incAcksReceived.ackAccept := by
  rcases ackStep_cases I s with ⟨-, refused, -⟩ | ⟨-, -, h⟩ | ⟨-, refused, -⟩
  · simp [done] at refused
  · exact h
  · simp [done] at refused

/-- A START during a message is not accepted (R131, Busy). -/
theorem State.starts_waiting {s : State} (waits : s.txState = .awaitingAck) (I : Sample) : s.starts I = false := by
  simp [State.starts, waits]

/-- The ack of the message in flight (R134): of the one that waits, or of the one that sub-step 1 has started. -/
theorem received_completes_iff {s : State} (inFlight : s.txState = .awaitingAck ∨ s.starts s.sample = true) :
    s.received.completes s.sample = true ↔
      s.sample.rxaValid = true ∧ s.sample.rxaFrame.valid = true ∧
        s.sample.rxaFrame.ack = s.seqStarted.setWidth 8 := by
  have inFlight : (s.txState == .awaitingAck || s.starts s.sample) = true := by simpa using inFlight
  simp [dataStep_completes, inFlight, and_assoc]

theorem State.seqStarted_waiting {s : State} (waits : s.txState = .awaitingAck) : s.seqStarted = s.txSeq := by
  simp [State.seqStarted, State.starts_waiting waits]

/-- Until sub-step 4 a message whose ack does not come stays as it was, with its timer and its budget. -/
theorem answered_waiting {s : State} (waits : s.txState = .awaitingAck)
    (refused : s.received.completes s.sample = false) :
    s.answered.txState = .awaitingAck ∧ s.answered.retry = s.retry ∧ s.answered.txf = s.txf ∧
      s.answered.timedOut = s.timedOut ∧ s.answered.budgetLeft = s.budgetLeft := by
  have noStart := State.starts_waiting waits s.sample
  have txState : s.answered.txState = .awaitingAck :=
    (ackStep_refused refused).1.trans (by simp [busStep_transmitter, noStart, waits])
  have retry : s.answered.retry = s.retry := by
    rw [ackStep_retry refused, dataStep_retry, busStep_retry, State.cycleStart_starts, noStart]
    rfl
  have timer : s.answered.timer = s.timer := by
    simp only [ackStep_frame, dataStep_frame, busStep_transmitter, State.cycleStart_starts, noStart]
    rfl
  refine ⟨txState, retry, by simp [busStep_transmitter, noStart], ?_, ?_⟩
  · rw [State.timedOut, txState, timer, State.timedOut, waits]
    simp
  · rw [State.budgetLeft, retry, State.budgetLeft]
    simp

/-- A cycle without a command leaves RETRANSMISSIONS, but for its own retransmission (R138). -/
theorem edge_retransmissions {s : State} (running : s.sample.rstN = true) (noCommand : s.sample.writesCmd = false) :
    s.edge.stats.retransmissions = s.stats.retransmissions + if s.edge.out.txd.isSome then 1 else 0 := by
  have noStart : s.starts s.sample = false := by simp [State.starts, Sample.commands_eq, noCommand]
  have kept (count : Word) : s.sample.keptCount count = count := by
    simp [Sample.keptCount, Sample.commands_eq, noCommand]
  rw [edge_eq running]
  simp only [checked_stats_eq, busStep_stats, State.cycleStart_frame, kept, noStart, Bool.not_false, Bool.and_true]

/-- Settles O24: sub-step 3 takes the ack before sub-step 4 looks at the timer. -/
theorem ackBeatsTimeout : Obligations.AckBeatsTimeout := by
  intro s t stepped running presented waits expired command accepted
  obtain ⟨-, rfl⟩ := (step_next_iff s t).1 stepped
  have silent : s.answered.out.txd = none := by rw [answered_txd, State.starts_waiting waits]; rfl
  have completes : s.received.completes s.sample = true ↔ accepted := by
    simp [received_completes_iff (.inl waits), State.seqStarted_waiting waits, presented, accepted]
  have refused (discarded : ¬accepted) : s.received.completes s.sample = false := by
    rwa [← Bool.not_eq_true, completes]
  have counted (noCommand : command = false) := edge_retransmissions running noCommand
  have timer : s.timedOut = true := s.timedOut_iff.2 ⟨waits, expired⟩
  refine ⟨fun wins => ?_, fun discarded budget => ?_, fun discarded spent => ?_⟩
  · have answered := ackStep_completes (completes.2 wins)
    have checked : s.checked = s.received.incAcksReceived.ackAccept := by
      rw [State.checked, State.answered, answered, timeoutStep_idle rfl]
    have txd : s.edge.out.txd = none := by rw [← silent, State.answered, answered, edge_eq running, checked]
    refine ⟨?_, ?_, ?_, ?_, txd, ?_, fun noCommand => by simpa [txd] using counted noCommand⟩ <;>
      rw [edge_eq running, checked, State.ackAccept_eq]
    simp [State.incAcksReceived]
  · obtain ⟨awaits, retry, txf, expires, left⟩ := answered_waiting waits (refused discarded)
    have checked : s.checked = s.answered.retransmit :=
      timeoutStep_retransmits (expires.trans timer) (left.trans (s.budgetLeft_iff.2 budget))
    have txd : s.edge.out.txd = some s.txf := by rw [edge_eq running, checked, State.retransmit_eq, ← txf]
    refine ⟨?_, ?_, txd, ?_, ?_, fun noCommand => by simpa [txd] using counted noCommand⟩ <;>
      rw [edge_eq running, checked, State.retransmit_eq]
    · exact awaits
    · simp
    · rw [← retry]
  · obtain ⟨-, -, -, expires, left⟩ := answered_waiting waits (refused discarded)
    have checked : s.checked = s.answered.fail :=
      timeoutStep_fails (expires.trans timer) (left.trans (by simpa [State.budgetLeft] using spent))
    refine ⟨?_, ?_, ?_, ?_, ?_, ?_⟩ <;> rw [edge_eq running, checked, State.fail_eq]
    exact silent

/-- Settles O29: a message ends in sub-step 3 by its ack or in sub-step 4 by a failure; it starts in sub-step 1, and
lasts over the cycle unless sub-step 3 ends it. -/
theorem transmitterTransitions : Obligations.TransmitterTransitions := by
  intro s t stepped running acks starts
  obtain ⟨-, rfl⟩ := (step_next_iff s t).1 stepped
  have ended : s.edge.txState = s.checked.txState := by rw [edge_eq running]
  refine ⟨fun waits => ?_, fun idle => ?_⟩
  · have completes : s.received.completes s.sample = true ↔ acks s.txSeq := by
      rw [received_completes_iff (.inl waits), State.seqStarted_waiting waits]
    have spent : s.budgetLeft = false ↔ s.params.maxRetries ≤ s.retry.toNat := by simp [State.budgetLeft]
    have expired : s.timedOut = true ↔ s.params.timeoutTicks < s.timer.toNat := by simp [State.timedOut_iff, waits]
    rw [← completes, ← expired, ← spent]
    cases done : s.received.completes s.sample with
    | true => simp [(edge_acked running done).1]
    | false =>
      obtain ⟨awaits, -, -, expires, left⟩ := answered_waiting waits done
      rw [ended, ← expires, ← left]
      rcases timeoutStep_cases s.answered with ⟨timer, h⟩ | ⟨timer, budget, h⟩ | ⟨timer, budget, h⟩
      · simp [State.checked, h, timer, awaits]
      · simp [State.checked, h, timer, budget, awaits, State.retransmit_eq]
      · simp [State.checked, h, timer, budget, State.fail_eq]
  · have started : starts ↔ s.starts s.sample = true := by
      rw [State.starts_iff, Sample.commands_iff]
      simp only [starts, idle, Nat.one_le_iff_ne_zero]
      tauto
    rw [started]
    cases accepted : s.starts s.sample with
    | false =>
      have stays : s.answered.txState = .idle := ackStep_idle (by simp [busStep_transmitter, accepted, idle])
      simp [ended, State.checked, timeoutStep_idle stays, stays]
    | true =>
      have number : (if s.cfg.persist then s.txSeq else 0) = s.seqStarted := by
        cases persist : s.cfg.persist <;> simp [State.seqStarted, accepted, persist]
      rw [number, ended, State.checked, timeoutStep_timer_zero (answered_timer s accepted)]
      have completes : s.received.completes s.sample = true ↔ acks s.seqStarted :=
        received_completes_iff (.inr accepted)
      rw [← completes]
      cases done : s.received.completes s.sample with
      | true => simp [(ackStep_accepted done).1]
      | false => simp [(ackStep_refused done).1, busStep_transmitter, accepted]

end Sys2Proof.Machine
end

section
/-! PROOFS. Whole messages (41_transmitter, 95_test_vectors W1): a run as iterated steps, the cycle of a START alone, of
a delivered data frame and of a delivered ack, and the message that all three make. -/

namespace Sys2Proof.Machine

/-! ### Runs -/

/-- With legal parameters a run is its steps. -/
theorem core_run_eq_iterate {s : State} (legal : s.params.legal = true) (n : Nat) :
    core.run n s = .next (State.edge^[n] s) := by
  induction n generalizing s with
  | zero => rfl
  | succ n ih => rw [core_run_succ legal, ih (edge_params legal ▸ legal)]; rfl

theorem stimulus_cons {s : State} {st : Stimulus} {rest : List Stimulus} (script : s.script = st :: rest) :
    s.stimulus = st := by
  rw [State.stimulus, script]
  rfl

/-- A cycle without a loss report, from the state that sub-step 4 leaves. -/
theorem edge_of_checked {s t : State} (checked : s.checked = t) (running : s.sample.rstN = true)
    (dataKept : s.sample.dataLost = false) (ackKept : s.sample.ackLost = false) :
    s.edge = { t with
      time := t.time + (if s.sample.tick then 1 else 0)
      timer := if s.sample.tick = true ∧ t.txState = .awaitingAck ∧ t.restarted = false then timerNext t.timer
        else t.timer
      restarted := false
      chan := s.chan.after s.stimulus t.out } := by
  rw [edge_eq running, checked, dataKept, ackKept]
  simp

/-! ### Cycles with one event -/

theorem busStep_none {I : Sample} (none : I.busValid = false) (s : State) : busStep I s = s := by
  simp [busStep, none]

theorem dataStep_none {I : Sample} (none : I.rxdValid = false) (s : State) : dataStep I s = s := by
  simp [dataStep, none]

theorem ackStep_none {I : Sample} (none : I.rxaValid = false) (s : State) : ackStep I s = s := by
  simp [ackStep, none]

/-- The state at the start of a cycle, written as one update. -/
def State.begun (s : State) : State :=
  { s with script := s.script.tail, restarted := false, out := { Outputs.zero with irq := s.irq } }

theorem State.cycleStart_eq_begun (s : State) : s.cycleStart = s.begun := s.cycleStart_eq

/-- The response of a write is the one the cycle starts with. -/
theorem State.cycleStart_respond (s : State) : s.cycleStart.respond 0 false = s.begun := by
  rw [State.cycleStart_eq_begun]
  rfl

/-- The outputs of the cycle of an accepted START alone. -/
def State.startOutputs (s : State) : Outputs := { Outputs.zero with txd := some s.startFrame, irq := s.irq }

/-- The cycle of an accepted START and nothing else but a tick, which TIMER does not count (R131, R133, R141). -/
theorem edge_start {s : State} {tick : Bool} (sample : s.sample = { commandSample 0x1 with tick := tick })
    (idle : s.txState = .idle) (low : 1 ≤ s.msgLen.toNat) (high : s.msgLen.toNat < s.params.maxDataSize) :
    s.edge = { s with
      txSeq := if s.cfg.persist then s.txSeq else 0
      rxExp := if s.cfg.persist then s.rxExp else 0
      retry := 0
      cond := 0x0
      stats := { s.stats with startTime := s.time, framesSent := s.stats.framesSent + 1 }
      status := { s.status with done := false, success := false, err := 0 }
      txf := s.startFrame
      timer := 0
      txState := .awaitingAck
      restarted := false
      time := s.time + (if tick then 1 else 0)
      out := s.startOutputs
      script := s.script.tail
      chan := s.chan.after s.stimulus s.startOutputs } := by
  have requested : s.requested = (s.cycleStart.respond 0 false).startCommand := by
    rw [State.requested, sample, busStep_writesCmd rfl]
    rfl
  have accepted := State.startCommand_accepted (s := s.begun) idle (Nat.one_le_iff_ne_zero.1 low) high
  rw [State.cycleStart_respond, accepted] at requested
  have checked : s.checked = s.requested := by
    rw [State.checked, State.answered, ackStep_none (by rw [sample]; rfl), State.received,
      dataStep_none (by rw [sample]; rfl), timeoutStep_timer_zero (by rw [requested])]
  rw [edge_of_checked (checked.trans requested) (by rw [sample]; rfl) (by rw [sample]; rfl) (by rw [sample]; rfl),
    sample]
  simp only [reduceCtorEq, and_false, if_false]
  rfl

/-- The outputs of the cycle that accepts a data frame. -/
def State.acceptOutputs (s : State) (f : DataFrame) : Outputs :=
  { Outputs.zero with rxDeliver := true, txa := some (mkAck f.seq), irq := s.irq }

/-- The cycle of an accepted data frame and nothing else but a tick, with the timer running (42_receiver R160, R161). -/
theorem edge_dataFrame {s : State} {f : DataFrame} {tick : Bool}
    (sample : s.sample = { Sample.idle with rxdValid := true, rxdFrame := f, tick := tick })
    (valid : f.valid s.params = true) (expected : f.seq = s.rxExp.setWidth 8) (timer : s.timedOut = false) :
    s.edge = { s with
      mem := (s.memWrite .rx 0 f.body).mem
      rxLen := f.len
      rxSeq := f.seq.extractLsb' 0 1
      rxValid := true
      rxExp := s.rxExp ^^^ 1
      stats := { s.stats with
        framesReceived := s.stats.framesReceived + 1, acksSent := s.stats.acksSent + 1 }
      time := s.time + (if tick then 1 else 0)
      timer := if tick = true ∧ s.txState = .awaitingAck then timerNext s.timer else s.timer
      restarted := false
      out := s.acceptOutputs f
      script := s.script.tail
      chan := s.chan.after s.stimulus (s.acceptOutputs f) } := by
  have received : s.received = s.cycleStart.incFramesReceived.rxAccept f := by
    rw [State.received, State.requested, sample, busStep_none rfl]
    rcases after_rxData f s.cycleStart with ⟨bad, -⟩ | ⟨-, -, h⟩ | ⟨-, old, -⟩
    · exact absurd (valid.symm.trans bad) (by simp)
    · exact h
    · exact absurd expected old
  have mem : (s.cycleStart.incFramesReceived.memWrite .rx 0 f.body).mem = (s.memWrite .rx 0 f.body).mem :=
    State.memWrite_mem_congr (s := s) (t := s.cycleStart.incFramesReceived) rfl rfl _ _ _
  rw [State.rxAccept_eq, mem, State.cycleStart_eq_begun] at received
  have checked : s.checked = s.received := by
    rw [State.checked, State.answered, ackStep_none (by rw [sample]; rfl), timeoutStep_running]
    rw [received]
    exact timer
  rw [edge_of_checked (checked.trans received) (by rw [sample]; rfl) (by rw [sample]; rfl) (by rw [sample]; rfl),
    sample]
  simp only [State.incFramesReceived, State.setStats, State.begun, and_true]
  rfl

/-- RX_BUF after that cycle: the frame's payload below its length (R161). -/
theorem edge_dataFrame_bufByte {s : State} {f : DataFrame} {tick : Bool}
    (sample : s.sample = { Sample.idle with rxdValid := true, rxdFrame := f, tick := tick })
    (legal : s.params.legal = true) (valid : f.valid s.params = true) (expected : f.seq = s.rxExp.setWidth 8)
    (timer : s.timedOut = false) (k : Nat) :
    s.edge.bufByte .rx k = if k < f.len.toNat then f.payload.getD k 0 else s.bufByte .rx k := by
  obtain ⟨-, -, fits, -⟩ := (DataFrame.valid_iff _ _).1 valid
  have edge := edge_dataFrame sample valid expected timer
  have written : s.edge.bufByte .rx k = (s.memWrite .rx 0 f.body).bufByte .rx k :=
    State.bufByte_congr (by rw [edge]; simp) (by rw [edge]) (by rw [edge]; simp) _ _
  rw [written, State.bufByte_memWrite s (Params.size_le legal), DataFrame.body_length, DataFrame.body_getD]
  by_cases below : k < f.len.toNat
  · simp [below, below.trans_le fits]
  · simp [below]

/-- The outputs of a cycle that drives no port but the interrupt. -/
def State.quietOutputs (s : State) : Outputs := { Outputs.zero with irq := s.irq }

/-- The cycle of an accepted ack and nothing else but a tick (R134, R135). -/
theorem edge_ackFrame {s : State} {a : AckFrame} {tick : Bool}
    (sample : s.sample = { Sample.idle with rxaValid := true, rxaFrame := a, tick := tick })
    (accepts : s.accepts a = true) :
    s.edge = { s with
      txState := .idle
      txSeq := s.txSeq ^^^ 1
      retry := 0
      stats := { s.stats with acksReceived := s.stats.acksReceived + 1, endTime := s.time }
      status := { s.status with done := true, success := true, err := 0 }
      time := s.time + (if tick then 1 else 0)
      restarted := false
      out := s.quietOutputs
      script := s.script.tail
      chan := s.chan.after s.stimulus s.quietOutputs } := by
  have received : s.received = s.cycleStart := by
    rw [State.received, State.requested, busStep_none (by rw [sample]; rfl), dataStep_none (by rw [sample]; rfl)]
  have completes : s.cycleStart.completes s.sample = true := by
    rw [sample]
    exact accepts
  have checked : s.checked = s.begun.incAcksReceived.ackAccept := by
    rw [State.checked, State.answered, received, ackStep_completes completes, timeoutStep_idle rfl,
      State.cycleStart_eq_begun]
  rw [State.ackAccept_eq] at checked
  rw [edge_of_checked checked (by rw [sample]; rfl) (by rw [sample]; rfl) (by rw [sample]; rfl), sample]
  simp only [State.incAcksReceived, State.setStats, State.begun, reduceCtorEq, false_and, and_false, if_false]
  rfl

/-! ### The channel -/

/-- A frame in flight that is delivered in the next cycle, whatever its tick (44_network_path R214). -/
theorem slotEvent_prompt {α : Type} {net : NetConfig} (prompt : net.minDelay = 0) (tick : Bool) (frame : α) :
    slotEvent net tick (some ⟨frame, 0, .deliver, 0⟩) = .present frame := by
  simp [slotEvent, Flight.event, prompt]

theorem keptSlot_none {α : Type} (net : NetConfig) (tick : Bool) : keptSlot (α := α) net tick none = none := rfl

theorem keptSlot_prompt {α : Type} {net : NetConfig} (prompt : net.minDelay = 0) (tick : Bool) (frame : α) :
    keptSlot net tick (some ⟨frame, 0, .deliver, 0⟩) = none :=
  keptSlot_of_event (by rw [slotEvent_prompt prompt]; simp)

section
variable {c : Channel} {st : Stimulus} (s : State) {f : DataFrame} {a : AckFrame}

/-- An empty ack slot and an emitted data frame that is to be delivered at once. -/
theorem Channel.after_start (ack : c.ack = none) (fate : settle c.net.loss st.dataDraw.fate = .deliver)
    (wait : st.dataDraw.wait = 0) :
    c.after st s.startOutputs = ⟨c.net, some ⟨s.startFrame, 0, .deliver, 0⟩, none⟩ := by
  simp [Channel.after, State.startOutputs, Outputs.zero, nextSlot, keptSlot_none, ack, fate, wait]

/-- A data frame leaves its slot, and its ack, to be delivered at once, takes the other. -/
theorem Channel.after_accept (prompt : c.net.minDelay = 0) (data : c.data = some ⟨f, 0, .deliver, 0⟩)
    (fate : settle c.net.loss st.ackDraw.fate = .deliver) (wait : st.ackDraw.wait = 0) :
    c.after st (s.acceptOutputs f) = ⟨c.net, none, some ⟨mkAck f.seq, 0, .deliver, 0⟩⟩ := by
  simp [Channel.after, State.acceptOutputs, Outputs.zero, nextSlot, keptSlot_prompt prompt, data, fate, wait]

/-- An ack leaves its slot, and nothing is emitted. -/
theorem Channel.after_quiet (prompt : c.net.minDelay = 0) (data : c.data = none)
    (ack : c.ack = some ⟨a, 0, .deliver, 0⟩) : c.after st s.quietOutputs = ⟨c.net, none, none⟩ := by
  simp [Channel.after, State.quietOutputs, Outputs.zero, nextSlot, keptSlot_prompt prompt, keptSlot_none, data, ack]

end

section
variable {s : State} {st : Stimulus} {rest : List Stimulus} {tick : Bool} {net : NetConfig}

/-- A cycle without a frame in flight. -/
theorem sample_empty (script : s.script = st :: rest) (data : s.chan.data = none) (ack : s.chan.ack = none) :
    s.sample = st.sample := by
  rw [State.sample, stimulus_cons script, Channel.present_quiet] <;> simp [data, ack, slotEvent]

/-- An idle cycle in which the channel delivers a data frame. -/
theorem sample_dataFrame {f : DataFrame} (script : s.script = st :: rest)
    (idle : st.sample = { Sample.idle with tick := tick }) (prompt : net.minDelay = 0)
    (chan : s.chan = ⟨net, some ⟨f, 0, .deliver, 0⟩, none⟩) :
    s.sample = { Sample.idle with rxdValid := true, rxdFrame := f, tick := tick } := by
  rw [State.sample, stimulus_cons script, Channel.present, chan, idle]
  simp only [slotFrame, slotLost, slotEvent_prompt prompt]
  rfl

/-- An idle cycle in which the channel delivers an ack. -/
theorem sample_ackFrame {a : AckFrame} (script : s.script = st :: rest)
    (idle : st.sample = { Sample.idle with tick := tick }) (prompt : net.minDelay = 0)
    (chan : s.chan = ⟨net, none, some ⟨a, 0, .deliver, 0⟩⟩) :
    s.sample = { Sample.idle with rxaValid := true, rxaFrame := a, tick := tick } := by
  rw [State.sample, stimulus_cons script, Channel.present, chan, idle]
  simp only [slotFrame, slotLost, slotEvent_prompt prompt]
  rfl

end

/-! ### A lossless message -/

/-- Settles O57: the cycle of the START, the cycle in which the data frame is delivered, and the cycle in which its ack
is. -/
theorem losslessMessageSucceeds : Obligations.LosslessMessageSucceeds := by
  intro s start data ack tick0 tick1 tick2 rest legal idle low high inStep noData noAck prompt dataFate dataWait
    ackFate ackWait startSample dataSample ackSample script
  have first := edge_start ((sample_empty script noData noAck).trans startSample) idle low high
  have script1 : s.edge.script = data :: ack :: rest := by rw [first, script]; rfl
  have chan1 : s.edge.chan = ⟨s.chan.net, some ⟨s.startFrame, 0, .deliver, 0⟩, none⟩ := by
    rw [first, stimulus_cons script]
    exact Channel.after_start s noAck dataFate dataWait
  have number : s.startFrame.seq = s.edge.txSeq.setWidth 8 := by rw [first]; rfl
  have expected : s.edge.rxExp = s.edge.txSeq := by
    rw [first]
    cases persist : s.cfg.persist with
    | false => rfl
    | true => exact (inStep persist).symm
  have sample1 := sample_dataFrame script1 dataSample prompt chan1
  have valid : s.startFrame.valid s.edge.params = true := by
    rw [edge_params legal]
    exact State.startFrame_valid legal high
  have numbered : s.startFrame.seq = s.edge.rxExp.setWidth 8 := by rw [expected, number]
  have timer : s.edge.timedOut = false := State.timedOut_timer_zero (by rw [first])
  have second := edge_dataFrame sample1 valid numbered timer
  have script2 : s.edge.edge.script = ack :: rest := by rw [second, script1]; rfl
  have chan2 : s.edge.edge.chan = ⟨s.chan.net, none, some ⟨mkAck s.startFrame.seq, 0, .deliver, 0⟩⟩ := by
    rw [second, stimulus_cons script1, chan1]
    exact Channel.after_accept s.edge prompt rfl ackFate ackWait
  have accepts : s.edge.edge.accepts (mkAck s.startFrame.seq) = true :=
    (State.accepts_iff _ _).2 ⟨by rw [second, first], rfl, by rw [second]; exact number, mkAck_csum _⟩
  have third := edge_ackFrame (sample_ackFrame script2 ackSample prompt chan2) accepts
  have chan3 : s.edge.edge.edge.chan = ⟨s.chan.net, none, none⟩ := by
    rw [third, chan2]
    exact Channel.after_quiet s.edge.edge prompt rfl rfl
  have received (k : Nat) : s.edge.edge.edge.bufByte .rx k =
      if k < s.msgLen.toNat then s.bufByte .tx k else s.bufByte .rx k := by
    have taken := edge_dataFrame_bufByte sample1 (edge_params legal ▸ legal) valid numbered timer k
    rw [State.startFrame_len, State.startFrame_payload_getD] at taken
    calc s.edge.edge.edge.bufByte .rx k
        = s.edge.edge.bufByte .rx k := by rw [third]; rfl
      _ = if k < s.msgLen.toNat then s.bufByte .tx k else s.edge.bufByte .rx k := by rw [taken]; split <;> rfl
      _ = if k < s.msgLen.toNat then s.bufByte .tx k else s.bufByte .rx k := by rw [first]; rfl
  have exp : s.edge.edge.edge.rxExp = s.edge.edge.edge.txSeq := by
    rw [third, second]
    exact congrArg (· ^^^ 1) expected
  have stats : s.edge.edge.edge.stats = { s.stats with
      framesSent := s.stats.framesSent + 1, framesReceived := s.stats.framesReceived + 1
      acksSent := s.stats.acksSent + 1, acksReceived := s.stats.acksReceived + 1
      startTime := s.time, endTime := s.edge.edge.time } := by
    rw [third, second, first]
  refine ⟨s.edge.edge.edge, core_run_eq_iterate legal 3, by rw [third], by rw [third], by rw [third], by rw [third],
    by rw [third, second], by rw [third, second]; exact State.startFrame_len,
    fun k below => by rw [received, if_pos below], fun k beyond => by rw [received, if_neg (by omega)],
    by rw [third, second, first], exp, by rw [stats], by rw [stats], by rw [stats], by rw [stats], by rw [stats],
    by rw [stats], by rw [chan3], by rw [chan3], by rw [third, script2]; rfl⟩

end Sys2Proof.Machine
end

section
/-! PROOFS. A message under total loss (41_transmitter R137 to R142, 44_network_path R217): the channel that loses every
frame, the state of a message that no ack answers, and its cycles up to the failure. -/

namespace Sys2Proof.Machine

/-! ### The channel -/

/-- A channel that loses every frame (p = 1), with no ack in flight. -/
structure Channel.Lossy (c : Channel) : Prop where
  loss : c.net.loss = .always
  data : ∀ flight, c.data = some flight → flight.fate = .drop
  ack : c.ack = none

/-- A frame in flight that is to be dropped is not presented (44_network_path R211). -/
theorem Flight.event_drop {α : Type} {flight : Flight α} (drop : flight.fate = .drop) (net : NetConfig)
    (tick : Bool) : flight.event net tick = .lost ∨ flight.event net tick = .quiet := by
  rcases flight.event_cases net tick with ⟨h, -⟩ | ⟨h, -⟩ | ⟨-, deliver, -⟩ | ⟨-, deliver, -⟩
  · exact .inl h
  · exact .inr h
  · simp [drop] at deliver
  · simp [drop] at deliver

/-- A lossy channel presents nothing. -/
theorem Channel.Lossy.present {c : Channel} (lossy : c.Lossy) (st : Stimulus) :
    (c.present st).rxdValid = st.sample.rxdValid ∧ (c.present st).rxaValid = st.sample.rxaValid := by
  have data : slotFrame c.net st.sample.tick c.data = none := by
    cases slot : c.data with
    | none => rfl
    | some flight =>
      rcases Flight.event_drop (lossy.data flight slot) c.net st.sample.tick with h | h <;>
        simp [slotFrame, slotEvent, h]
  have ack : slotFrame c.net st.sample.tick c.ack = none := by rw [lossy.ack]; rfl
  simp [Channel.present, data, ack]

/-- A lossy channel stays lossy while no ack is emitted. -/
theorem Channel.Lossy.after {c : Channel} (lossy : c.Lossy) (st : Stimulus) {o : Outputs} (silent : o.txa = none) :
    (c.after st o).Lossy where
  loss := lossy.loss
  data := by
    intro flight taken
    simp only [Channel.after, nextSlot] at taken
    cases emitted : o.txd with
    | some f =>
      simp only [emitted, Option.some.injEq] at taken
      simp [← taken, lossy.loss]
    | none =>
      simp only [emitted] at taken
      cases slot : c.data with
      | none => simp [slot, keptSlot] at taken
      | some old =>
        have drop := lossy.data old slot
        rcases Flight.event_drop drop c.net st.sample.tick with h | h
        · simp [slot, keptSlot, h] at taken
        · simp only [slot, keptSlot, h, Option.some.injEq] at taken
          rw [← taken, drop]
  ack := by simp [Channel.after, silent, lossy.ack, nextSlot, keptSlot]

/-! ### A cycle with a tick and nothing else -/

/-- The next cycle has a tick and neither a bus request nor a frame. -/
structure State.TickOnly (s : State) : Prop where
  rstN : s.sample.rstN = true
  busValid : s.sample.busValid = false
  rxdValid : s.sample.rxdValid = false
  rxaValid : s.sample.rxaValid = false
  tick : s.sample.tick = true

theorem Channel.Lossy.tickOnly {s : State} {st : Stimulus} {rest : List Stimulus} (lossy : s.chan.Lossy)
    (script : s.script = st :: rest) (sample : st.sample = { Sample.idle with tick := true }) : s.TickOnly := by
  obtain ⟨data, ack⟩ := lossy.present st
  have presented : s.sample = s.chan.present st := by rw [State.sample, stimulus_cons script]
  rw [← presented, sample] at data ack
  exact {
    rstN := by rw [presented, Channel.present_rstN, sample]; rfl
    busValid := by rw [presented, Channel.present_busValid, sample]; rfl
    rxdValid := data
    rxaValid := ack
    tick := by rw [presented, Channel.present_tick, sample] }

/-- Only sub-step 4, the tick and the loss reports run in such a cycle. -/
theorem State.TickOnly.edge_eq {s u : State} (only : s.TickOnly) (checked : timeoutStep s.begun = u) :
    s.edge = { u with
      time := u.time + 1
      timer := if u.txState = .awaitingAck ∧ u.restarted = false then timerNext u.timer else u.timer
      stats := { u.stats with framesLost := u.stats.framesLost +
        (if s.sample.dataLost then 1 else 0) + (if s.sample.ackLost then 1 else 0) }
      restarted := false
      chan := s.chan.after s.stimulus u.out } := by
  have same : s.checked = u := by
    rw [State.checked, State.answered, ackStep_none only.rxaValid, State.received, dataStep_none only.rxdValid,
      State.requested, busStep_none only.busValid, State.cycleStart_eq_begun, checked]
  rw [Machine.edge_eq only.rstN, same, only.tick]
  simp only [if_true, true_and]

/-! ### A message that no ack answers -/

/-- `t` is a later state of the message that a START in `s` begins, after `retries` retransmissions and `ticks` ticks
since the last emission, while every frame is lost. -/
structure State.Unanswered (s t : State) (retries ticks : Nat) : Prop where
  params : t.params = s.params
  waits : t.txState = .awaitingAck
  txf : t.txf = s.startFrame
  retry : t.retry = BitVec.ofNat 8 retries
  timer : t.timer = BitVec.ofNat 32 ticks
  txd : t.out.txd = if ticks = 0 then some s.startFrame else none
  time : t.time = s.time + BitVec.ofNat 32 (retries * (s.params.timeoutTicks + 2) + ticks + 1)
  retransmissions : t.stats.retransmissions = s.stats.retransmissions + BitVec.ofNat 32 retries
  framesSent : t.stats.framesSent = s.stats.framesSent + 1
  startTime : t.stats.startTime = s.time
  lossy : t.chan.Lossy

theorem State.Unanswered.timedOut_iff {s t : State} {retries ticks : Nat} (h : s.Unanswered t retries ticks)
    (legal : s.params.legal = true) (bound : ticks ≤ s.params.timeoutTicks + 1) :
    t.timedOut = true ↔ s.params.timeoutTicks < ticks := by
  obtain ⟨-, -, -, room⟩ := (Params.legal_iff _).1 legal
  have timer : t.timer.toNat = ticks := by rw [h.timer, BitVec.toNat_ofNat]; omega
  rw [State.timedOut_iff, timer, h.params]
  simp [h.waits]

theorem State.Unanswered.budgetLeft_iff {s t : State} {retries ticks : Nat} (h : s.Unanswered t retries ticks)
    (legal : s.params.legal = true) (bound : retries ≤ s.params.maxRetries) :
    t.budgetLeft = true ↔ retries < s.params.maxRetries := by
  obtain ⟨-, -, room, -⟩ := (Params.legal_iff _).1 legal
  have retry : t.retry.toNat = retries := by rw [h.retry, BitVec.toNat_ofNat]; omega
  rw [State.budgetLeft_iff, retry, h.params]

/-- The cycle of the START. -/
theorem unanswered_start {s : State} (sample : s.sample = { commandSample 0x1 with tick := true })
    (idle : s.txState = .idle) (low : 1 ≤ s.msgLen.toNat) (high : s.msgLen.toNat < s.params.maxDataSize)
    (lossy : s.chan.Lossy) : s.Unanswered s.edge 0 0 := by
  have first := edge_start sample idle low high
  exact {
    params := by rw [first]
    waits := by rw [first]
    txf := by rw [first]
    retry := by rw [first]; rfl
    timer := by rw [first]; rfl
    txd := by rw [first]; rfl
    time := by rw [first]; simp
    retransmissions := by rw [first]; simp
    framesSent := by rw [first]
    startTime := by rw [first]
    lossy := by rw [first]; exact lossy.after _ rfl }

theorem add_ofNat_succ {w : Nat} (v : BitVec w) (n : Nat) : v + BitVec.ofNat w n + 1 = v + BitVec.ofNat w (n + 1) := by
  rw [BitVec.add_assoc]
  exact congrArg (v + ·) (BitVec.ofNat_add n 1).symm

theorem timerNext_ofNat {ticks : Nat} (room : ticks < 2 ^ 32 - 1) :
    timerNext (BitVec.ofNat 32 ticks) = BitVec.ofNat 32 (ticks + 1) := by
  have toNat : (BitVec.ofNat 32 ticks).toNat = ticks := by rw [BitVec.toNat_ofNat]; omega
  apply BitVec.eq_of_toNat_eq
  rw [timerNext_toNat (by omega), toNat, BitVec.toNat_ofNat]
  omega

section
variable {s t : State} {retries ticks : Nat}

/-- A cycle in which the timer has not expired: it counts on, and nothing is emitted. -/
theorem State.Unanswered.waits_on (h : s.Unanswered t retries ticks) (legal : s.params.legal = true)
    (only : t.TickOnly) (running : ticks ≤ s.params.timeoutTicks) : s.Unanswered t.edge retries (ticks + 1) := by
  obtain ⟨-, -, -, room⟩ := (Params.legal_iff _).1 legal
  have timedOut : t.begun.timedOut = false := by
    rw [← Bool.not_eq_true]
    exact (h.timedOut_iff legal (by omega)).not.2 (by omega)
  have edge := only.edge_eq (timeoutStep_running timedOut)
  exact {
    params := by rw [edge]; exact h.params
    waits := by rw [edge]; exact h.waits
    txf := by rw [edge]; exact h.txf
    retry := by rw [edge]; exact h.retry
    timer := by
      have counts : t.edge.timer = timerNext t.timer := by rw [edge]; exact if_pos ⟨h.waits, rfl⟩
      rw [counts, h.timer, timerNext_ofNat (by omega)]
    txd := by rw [edge]; rfl
    time := by
      have ticked : t.edge.time = t.time + 1 := by rw [edge]; rfl
      rw [ticked, h.time, add_ofNat_succ]
      rfl
    retransmissions := by rw [edge]; exact h.retransmissions
    framesSent := by rw [edge]; exact h.framesSent
    startTime := by rw [edge]; exact h.startTime
    lossy := by rw [edge]; exact h.lossy.after _ rfl }

/-- The cycle in which the timer has expired and budget is left: TXF is emitted again. -/
theorem State.Unanswered.retransmits (h : s.Unanswered t retries (s.params.timeoutTicks + 1))
    (legal : s.params.legal = true) (only : t.TickOnly) (budget : retries < s.params.maxRetries) :
    s.Unanswered t.edge (retries + 1) 0 := by
  have timedOut : t.begun.timedOut = true := (h.timedOut_iff legal (by omega)).2 (by omega)
  have left : t.begun.budgetLeft = true := (h.budgetLeft_iff legal budget.le).2 budget
  have edge := only.edge_eq ((timeoutStep_retransmits timedOut left).trans (State.retransmit_eq _))
  exact {
    params := by rw [edge]; exact h.params
    waits := by rw [edge]; exact h.waits
    txf := by rw [edge]; exact h.txf
    retry := by
      have counted : t.edge.retry = t.retry + 1 := by rw [edge]; rfl
      rw [counted, h.retry]
      exact (BitVec.ofNat_add retries 1).symm
    timer := by rw [edge]; simp
    txd := by rw [edge]; exact congrArg some h.txf
    time := by
      have ticked : t.edge.time = t.time + 1 := by rw [edge]; rfl
      rw [ticked, h.time, add_ofNat_succ, Nat.add_mul, Nat.one_mul]
      rfl
    retransmissions := by
      have counted : t.edge.stats.retransmissions = t.stats.retransmissions + 1 := by rw [edge]; rfl
      rw [counted, h.retransmissions, add_ofNat_succ]
    framesSent := by rw [edge]; exact h.framesSent
    startTime := by rw [edge]; exact h.startTime
    lossy := by rw [edge]; exact h.lossy.after _ rfl }

/-- The cycle in which the timer has expired and no budget is left: the message fails. -/
theorem State.Unanswered.fails (h : s.Unanswered t s.params.maxRetries (s.params.timeoutTicks + 1))
    (legal : s.params.legal = true) (only : t.TickOnly) :
    t.edge.txState = .idle ∧ t.edge.out.txd = none ∧ t.edge.cond = 0x4 ∧ t.edge.retry = t.retry ∧
      t.edge.status = { t.status with done := true, success := false, err := 0x4 } ∧
      ∃ lost, t.edge.stats = { t.stats with framesLost := lost, endTime := t.time } := by
  have timedOut : t.begun.timedOut = true := (h.timedOut_iff legal (by omega)).2 (by omega)
  have spent : t.begun.budgetLeft = false := by
    rw [← Bool.not_eq_true]
    exact (h.budgetLeft_iff legal le_rfl).not.2 (lt_irrefl _)
  have edge := only.edge_eq ((timeoutStep_fails timedOut spent).trans (State.fail_eq _))
  exact ⟨by rw [edge], by rw [edge]; rfl, by rw [edge], by rw [edge]; rfl, by rw [edge]; rfl, _, by rw [edge]; rfl⟩

/-- Quotient and remainder of the next number: the remainder counts on, or it starts anew and the quotient counts. -/
theorem succ_div_mod {p : Nat} (pos : 0 < p) (k : Nat) :
    (k % p + 1 < p ∧ (k + 1) / p = k / p ∧ (k + 1) % p = k % p + 1) ∨
      (k % p + 1 = p ∧ (k + 1) / p = k / p + 1 ∧ (k + 1) % p = 0) := by
  have parts := Nat.mod_add_div k p
  rcases Nat.lt_or_eq_of_le (Nat.mod_lt k pos : k % p + 1 ≤ p) with below | last
  · exact .inl ⟨below, (Nat.div_mod_unique pos).2 ⟨by omega, below⟩⟩
  · exact .inr ⟨last, (Nat.div_mod_unique pos).2 ⟨by rw [Nat.mul_add]; omega, pos⟩⟩

/-- One cycle more: every `timeoutTicks + 2` cycles the frame is sent again. -/
theorem State.Unanswered.next {k : Nat}
    (h : s.Unanswered t (k / (s.params.timeoutTicks + 2)) (k % (s.params.timeoutTicks + 2)))
    (legal : s.params.legal = true) (only : t.TickOnly)
    (left : k + 1 < (s.params.maxRetries + 1) * (s.params.timeoutTicks + 2)) :
    s.Unanswered t.edge ((k + 1) / (s.params.timeoutTicks + 2)) ((k + 1) % (s.params.timeoutTicks + 2)) := by
  have inBudget := Nat.div_lt_of_lt_mul (Nat.mul_comm _ _ ▸ left)
  rcases succ_div_mod (p := s.params.timeoutTicks + 2) (by omega) k with ⟨below, div, mod⟩ | ⟨last, div, mod⟩
  · rw [div, mod]
    exact h.waits_on legal only (by omega)
  · rw [div] at inBudget
    rw [div, mod]
    rw [show k % (s.params.timeoutTicks + 2) = s.params.timeoutTicks + 1 by omega] at h
    exact h.retransmits legal only (by omega)

end

/-! ### The run -/

/-- The states of the message up to its last cycle, with the script that is left. -/
theorem unanswered_iterate {s : State} {start : Stimulus} {quiet rest : List Stimulus}
    (legal : s.params.legal = true) (begins : s.Unanswered s.edge 0 0) (running : s.sample.rstN = true)
    (ticks : ∀ st ∈ quiet, st.sample = { Sample.idle with tick := true })
    (length : quiet.length = (s.params.maxRetries + 1) * (s.params.timeoutTicks + 2))
    (script : s.script = start :: (quiet ++ rest)) {k : Nat} (inScript : k < quiet.length) :
    s.Unanswered (State.edge^[k + 1] s) (k / (s.params.timeoutTicks + 2)) (k % (s.params.timeoutTicks + 2)) ∧
      (State.edge^[k + 1] s).TickOnly ∧ (State.edge^[k + 1] s).script = quiet.drop k ++ rest := by
  have only {t : State} {k : Nat} (inScript : k < quiet.length) (lossy : t.chan.Lossy)
      (left : t.script = quiet.drop k ++ rest) : t.TickOnly := by
    rw [List.drop_eq_getElem_cons inScript, List.cons_append] at left
    exact lossy.tickOnly left (ticks _ (List.getElem_mem inScript))
  induction k with
  | zero =>
    have left : s.edge.script = quiet.drop 0 ++ rest := by rw [edge_script running, script]; rfl
    rw [Nat.zero_div, Nat.zero_mod]
    exact ⟨begins, only inScript begins.lossy left, left⟩
  | succ k ih =>
    have before : k < quiet.length := by omega
    obtain ⟨h, tickOnly, left⟩ := ih before
    have next := h.next legal tickOnly (length ▸ inScript)
    have nextLeft : (State.edge^[k + 1] s).edge.script = quiet.drop (k + 1) ++ rest := by
      rw [edge_script tickOnly.rstN, left, List.drop_eq_getElem_cons before]
      rfl
    rw [Function.iterate_succ_apply']
    exact ⟨next, only inScript next.lossy nextLeft, nextLeft⟩

/-- Settles O58: cycle `k` leaves the message with `k / period` retransmissions and `k % period` ticks, so the timer has
expired with no budget left for the first time in cycle `n`. -/
theorem totalLossFailsAfterTheBudget : Obligations.TotalLossFailsAfterTheBudget := by
  intro s start quiet rest legal idle low high noData noAck loss period n startSample ticks length script
  have sample := (sample_empty script noData noAck).trans startSample
  have running : s.sample.rstN = true := by rw [sample]; rfl
  have lossy : s.chan.Lossy := ⟨loss, by simp [noData], noAck⟩
  have begins := unanswered_start sample idle low high lossy
  have states {k : Nat} (below : k < n) :=
    unanswered_iterate legal begins running ticks length script (length ▸ below)
  have total : n = s.params.maxRetries * period + period := by simp only [n, Nat.add_mul, Nat.one_mul]
  constructor
  · refine ⟨s.startFrame, State.startFrame_valid legal high, State.startFrame_len, fun k below => ?_⟩
    obtain ⟨h, -, -⟩ := states below
    exact ⟨_, core_run_eq_iterate legal (k + 1), h.waits, h.txd⟩
  · obtain ⟨last, hlast⟩ : ∃ last, n = last + 1 := Nat.exists_eq_succ_of_ne_zero (by simp [n, period])
    obtain ⟨h, tickOnly, left⟩ := states (k := last) (by omega)
    have spent : last / period = s.params.maxRetries ∧ last % period = s.params.timeoutTicks + 1 := by
      refine (Nat.div_mod_unique (by omega)).2 ⟨?_, by omega⟩
      rw [Nat.mul_comm]
      omega
    rw [spent.1, spent.2] at h
    obtain ⟨idle, txd, cond, retry, status, lost, stats⟩ := h.fails legal tickOnly
    have run : core.run (n + 1) s = .next (State.edge^[last + 1] s).edge := by
      rw [core_run_eq_iterate legal, hlast, Function.iterate_succ_apply']
    refine ⟨_, run, idle, txd, by rw [status], by rw [status], by rw [status], cond, ?_, ?_, ?_, ?_, ?_, ?_⟩
    · obtain ⟨-, -, room, -⟩ := (Params.legal_iff _).1 legal
      rw [retry, h.retry, BitVec.toNat_ofNat]
      omega
    · rw [stats, h.retransmissions]
    · rw [stats, h.framesSent]
    · rw [stats, h.startTime]
    · rw [stats, h.time, total]
      rfl
    · rw [edge_script tickOnly.rstN, left, List.drop_eq_getElem_cons (by omega), List.drop_eq_nil_of_le (by omega)]
      rfl

end Sys2Proof.Machine
end

section
/-! PROOFS. The receiver (42_receiver): the branch that RX_DATA runs and what each branch does, the acks that a cycle
emits, and a lost ack recovered by a duplicate (R165). -/

namespace Sys2Proof

theorem Bit.extractLsb'_setWidth (b : Bit) : (b.setWidth 8).extractLsb' 0 1 = b := by
  revert b
  decide

/-- The other sequence number is another number (10_state R21). -/
theorem Bit.setWidth_ne_flip (b : Bit) : b.setWidth 8 ≠ (b ^^^ 1).setWidth 8 := by
  revert b
  decide

/-- The four ways in which a frame is bad (40_frame_checksum R116, R118, R120). -/
theorem DataFrame.invalid_iff (p : Params) (f : DataFrame) :
    f.valid p = false ↔
      f.type ≠ 0x01 ∨ 1 < f.seq.toNat ∨ p.maxDataSize < f.len.toNat ∨ f.csum ≠ checksum f.image := by
  rw [← Bool.not_eq_true, DataFrame.valid_iff]
  simp only [not_and_or, not_le, ne_eq]

end Sys2Proof

namespace Sys2Proof.Machine

/-! ### The operations under their guards -/

section
variable {s : State} {f : DataFrame}

theorem exec_rxDrop (invalid : f.valid s.params = false) : exec (.rxDrop f) s = .next s.rxDrop :=
  congrArg _ (if_neg (by simp [invalid]))

theorem exec_rxAccept (valid : f.valid s.params = true) (expected : f.seq = s.rxExp.setWidth 8) :
    exec (.rxAccept f) s = .next (s.rxAccept f) :=
  congrArg _ (if_pos (by simp [valid, State.expects, expected]))

theorem exec_rxDuplicate (valid : f.valid s.params = true) (other : f.seq ≠ s.rxExp.setWidth 8) :
    exec (.rxDuplicate f) s = .next (s.rxDuplicate f) :=
  congrArg _ (if_pos (by simp [valid, State.expects, other]))

theorem exec_rxData_invalid (invalid : f.valid s.params = false) :
    exec (.rxData f) s = .next s.incFramesReceived.rxDrop := by
  rw [exec_eq_after]
  simpa [invalid] using after_rxData f s

theorem exec_rxData_expected (valid : f.valid s.params = true) (expected : f.seq = s.rxExp.setWidth 8) :
    exec (.rxData f) s = .next (s.incFramesReceived.rxAccept f) := by
  rw [exec_eq_after]
  simpa [valid, expected] using after_rxData f s

theorem exec_rxData_other (valid : f.valid s.params = true) (other : f.seq ≠ s.rxExp.setWidth 8) :
    exec (.rxData f) s = .next (s.incFramesReceived.rxDuplicate f) := by
  rw [exec_eq_after]
  simpa [valid, other] using after_rxData f s

end

/-- Settles O32: the guard of each selected operation holds on the counted state exactly when it holds on `s`. -/
theorem rxDataSelectsOneBranch : Obligations.RxDataSelectsOneBranch := by
  intro s f t
  have counted : s.incFramesReceived = t := rfl
  rw [← counted]
  refine ⟨fun invalid => ?_, fun valid expected => ?_, fun valid other => ?_⟩
  · rw [exec_rxData_invalid invalid, exec_rxDrop (s := s.incFramesReceived) invalid]
  · rw [exec_rxData_expected valid expected, exec_rxAccept (s := s.incFramesReceived) valid expected]
  · rw [exec_rxData_other valid other, exec_rxDuplicate (s := s.incFramesReceived) valid other]

/-! ### The three branches -/

/-- The buffers after RX_ACCEPT: RX_BUF takes the payload of a frame that fits, and TX_BUF stays (R161). -/
theorem State.bufByte_rxAccept {s : State} {f : DataFrame} (size : s.params.maxDataSize ≤ 4096)
    (fits : f.len.toNat ≤ s.params.maxDataSize) (b : Buffer) (k : Nat) :
    (s.rxAccept f).bufByte b k =
      if b = .rx ∧ k < f.len.toNat then f.payload.getD k 0 else s.bufByte b k := by
  have written : (s.rxAccept f).bufByte b k = (s.memWrite .rx 0 f.body).bufByte b k :=
    State.bufByte_congr (by simp [State.rxAccept_eq]) (by rw [State.rxAccept_eq]) (by simp [State.rxAccept_eq]) _ _
  rw [written, State.bufByte_memWrite s size, DataFrame.body_length, DataFrame.body_getD]
  by_cases below : k < f.len.toNat
  · simp [below, below.trans_le fits]
  · simp [below]

/-- Settles O34: the fields of RX_ACCEPT are those of `State.rxAccept_eq`, the bytes those of its buffer write. -/
theorem expectedFrameIsAccepted : Obligations.ExpectedFrameIsAccepted := by
  intro s f legal valid expected
  obtain ⟨-, -, fits, -⟩ := (DataFrame.valid_iff _ _).1 valid
  have bytes := State.bufByte_rxAccept (f := f) (Params.size_le legal) fits
  have number : f.seq.extractLsb' 0 1 = s.rxExp := by rw [expected, Bit.extractLsb'_setWidth]
  have mem : (s.incFramesReceived.memWrite .rx 0 f.body).mem = (s.memWrite .rx 0 f.body).mem :=
    State.memWrite_mem_congr (s := s) (t := s.incFramesReceived) rfl rfl _ _ _
  refine ⟨s.rxAccept f, exec_rxAccept valid expected, ?fields, fun k below => ?payload, fun k beyond => ?rest,
    fun k => ?tx, ?counted⟩
  case fields => rw [State.rxAccept_eq, number, mkAck_eq]
  case payload => rw [bytes, if_pos ⟨rfl, below⟩]
  case rest => rw [bytes, if_neg (by omega)]
  case tx => rw [bytes, if_neg (by simp)]
  case counted =>
    rw [exec_rxData_expected valid expected, State.rxAccept_eq, State.rxAccept_eq, mem]
    rfl

/-- Settles O35: RX_DUPLICATE on `s`, and on the counted state. -/
theorem otherFrameIsADuplicate : Obligations.OtherFrameIsADuplicate := by
  intro s f valid other
  rw [exec_rxDuplicate valid other, exec_rxData_other valid other, State.rxDuplicate_eq, State.rxDuplicate_eq,
    mkAck_eq]
  constructor
  · intro silent
    simp [silent, State.incFramesReceived, State.setStats]
  · intro reack
    simp [reack, State.incFramesReceived, State.setStats]

/-- Settles O36: a bad frame is an invalid one, and RX_DROP writes COND alone. -/
theorem badFrameIsDropped : Obligations.BadFrameIsDropped := by
  intro s f bad
  have invalid : f.valid s.params = false := (f.invalid_iff _).2 bad
  exact ⟨exec_rxDrop invalid, exec_rxData_invalid invalid⟩

/-! ### The acks of a cycle -/

/-- Sub-step 2 emits an ack for a valid data frame only, with the frame's number (R164). -/
theorem dataStep_txa {I : Sample} {s : State} {a : AckFrame} (silent : s.out.txa = none)
    (emitted : (dataStep I s).out.txa = some a) :
    I.rxdValid = true ∧ I.rxdFrame.valid s.params = true ∧ a = mkAck I.rxdFrame.seq := by
  cases presented : I.rxdValid with
  | false => simp [dataStep_none presented, silent] at emitted
  | true =>
    rw [dataStep, if_pos presented] at emitted
    rcases after_rxData I.rxdFrame s with ⟨-, h⟩ | ⟨valid, -, h⟩ | ⟨valid, -, h⟩ <;> rw [h] at emitted
    · simp [State.rxDrop_eq, State.incFramesReceived, silent] at emitted
    · rw [State.rxAccept_eq] at emitted
      exact ⟨rfl, valid, (Option.some.inj emitted).symm⟩
    · rw [State.rxDuplicate_eq] at emitted
      cases reack : s.cfg.reackDup with
      | false => simp [State.incFramesReceived, reack, silent] at emitted
      | true => exact ⟨rfl, valid, by simpa [State.incFramesReceived, reack, eq_comm] using emitted⟩

/-- Settles O38: sub-step 2 is the only one that emits an ack. -/
theorem emittedAckAnswersItsFrame : Obligations.EmittedAckAnswersItsFrame := by
  intro s t a stepped emitted
  obtain ⟨-, rfl⟩ := (step_next_iff s t).1 stepped
  cases running : s.sample.rstN with
  | false => rw [edge_reset running] at emitted; exact nomatch emitted
  | true =>
    rw [edge_eq running] at emitted
    obtain ⟨presented, valid, rfl⟩ := dataStep_txa (I := s.sample) (s := s.requested) (by simp [Outputs.zero])
      (by simpa using emitted)
    obtain ⟨-, number, -⟩ := (DataFrame.valid_iff _ _).1 valid
    obtain ⟨-, legalNumber⟩ := mkAckBuildsTheTwoAcks s.sample.rxdFrame.seq
    exact ⟨presented, rfl, (legalNumber number).2⟩

/-! ### A lost ack -/

/-- The outputs of the cycle of a duplicate (R162). -/
def State.duplicateOutputs (s : State) (f : DataFrame) : Outputs :=
  { Outputs.zero with txa := if s.cfg.reackDup then some (mkAck f.seq) else none, irq := s.irq }

/-- The cycle of a duplicate and nothing else but a tick, with the timer running (R160, R162). -/
theorem edge_duplicate {s : State} {f : DataFrame} {tick : Bool}
    (sample : s.sample = { Sample.idle with rxdValid := true, rxdFrame := f, tick := tick })
    (valid : f.valid s.params = true) (other : f.seq ≠ s.rxExp.setWidth 8) (timer : s.timedOut = false) :
    s.edge = { s with
      cond := 0xA
      stats := { s.stats with
        framesReceived := s.stats.framesReceived + 1
        acksSent := s.stats.acksSent + (if s.cfg.reackDup then 1 else 0) }
      time := s.time + (if tick then 1 else 0)
      timer := if tick = true ∧ s.txState = .awaitingAck then timerNext s.timer else s.timer
      restarted := false
      out := s.duplicateOutputs f
      script := s.script.tail
      chan := s.chan.after s.stimulus (s.duplicateOutputs f) } := by
  have received : s.received = s.begun.incFramesReceived.rxDuplicate f := by
    have run : s.received = after (.rxData f) s.begun := by
      rw [State.received, State.requested, sample, busStep_none rfl, State.cycleStart_eq_begun]
      rfl
    have duplicate := exec_rxData_other (s := s.begun) valid other
    rw [exec_eq_after] at duplicate
    exact run.trans (Host.Outcome.next.inj duplicate)
  rw [State.rxDuplicate_eq] at received
  have checked : s.checked = s.received := by
    rw [State.checked, State.answered, ackStep_none (by rw [sample]; rfl), timeoutStep_running]
    rw [received]
    exact timer
  rw [edge_of_checked (checked.trans received) (by rw [sample]; rfl) (by rw [sample]; rfl) (by rw [sample]; rfl),
    sample]
  cases reack : s.cfg.reackDup <;>
    simp [State.incFramesReceived, State.setStats, State.begun, State.duplicateOutputs, reack, Outputs.zero]

/-- An empty data slot, and an ack for a duplicate that is to be delivered at once. -/
theorem Channel.after_duplicate {c : Channel} {st : Stimulus} {s : State} (f : DataFrame)
    (reack : s.cfg.reackDup = true) (data : c.data = none) (fate : settle c.net.loss st.ackDraw.fate = .deliver)
    (wait : st.ackDraw.wait = 0) :
    c.after st (s.duplicateOutputs f) = ⟨c.net, none, some ⟨mkAck f.seq, 0, .deliver, 0⟩⟩ := by
  simp [Channel.after, State.duplicateOutputs, Outputs.zero, nextSlot, keptSlot_none, reack, data, fate, wait]

/-- Settles O59: the copy of TXF is a duplicate, and the ack it brings with REACK_DUP = 1 has the number that the
transmitter waits for. -/
theorem reackRecoversALostAck : Obligations.ReackRecoversALostAck := by
  intro s copy ack tick0 tick1 rest inv waits taken running noData noAck prompt fate wait copySample ackSample script
  have inFlight := inv.waiting waits
  have sample := (sample_empty script noData noAck).trans copySample
  have other : s.txf.seq ≠ s.rxExp.setWidth 8 := by
    rw [inFlight.frameSeq, taken]
    exact s.txSeq.setWidth_ne_flip
  have timer : s.timedOut = false := by
    rw [← Bool.not_eq_true, State.timedOut_iff]
    omega
  have first := edge_duplicate sample inFlight.frameValid other timer
  have buffers : SameBuffers s s.edge := fun b k => by rw [first]; rfl
  constructor
  · intro reack
    have script1 : s.edge.script = ack :: rest := by rw [first, script]; rfl
    have chan1 : s.edge.chan = ⟨s.chan.net, none, some ⟨mkAck s.txf.seq, 0, .deliver, 0⟩⟩ := by
      rw [first, stimulus_cons script]
      exact Channel.after_duplicate s.txf reack noData fate wait
    have accepts : s.edge.accepts (mkAck s.txf.seq) = true :=
      (State.accepts_iff _ _).2
        ⟨by rw [first]; exact waits, rfl, by rw [first]; exact inFlight.frameSeq, mkAck_csum _⟩
    have second := edge_ackFrame (sample_ackFrame script1 ackSample prompt chan1) accepts
    have buffers2 : SameBuffers s s.edge.edge := fun b k => by rw [second]; exact buffers b k
    have acks : s.edge.edge.stats.acksSent = s.stats.acksSent + 1 := by rw [second, first, reack]; rfl
    exact ⟨s.edge.edge, core_run_eq_iterate inv.legal 2, by rw [second], by rw [second], by rw [second],
      by rw [second, first], by rw [second, first], buffers2, acks, by rw [second, first]⟩
  · intro silent
    have noAck : s.edge.out.txa = none := by rw [first]; simp [State.duplicateOutputs, silent]
    have acks : s.edge.stats.acksSent = s.stats.acksSent := by rw [first]; simp [silent]
    exact ⟨s.edge, core_run_eq_iterate inv.legal 1, by rw [first]; exact waits, noAck, by rw [first], acks, buffers⟩

end Sys2Proof.Machine
end

section
/-! PROOFS. The host's commands and the register map (43_host_commands): what a CMD write runs, what the control
registers and the TX_BUF window take from a write, and what each mapped word reads as. -/

namespace Sys2Proof.Machine

/-! ### Commands -/

/-- Settles O39: NOP answers its state. -/
theorem nopHasNoEffect : Obligations.NopHasNoEffect := fun _ _ => rfl

/-- Settles O40: the update of CLR_STATS is the bank's. -/
theorem clrStatsClearsTheBank : Obligations.ClrStatsClearsTheBank := fun s _ =>
  congrArg Host.Outcome.next s.clearStats_eq

/-- Settles O41: the three rows of reserved commands all run BADCMD. -/
theorem reservedCommandsAreRefused : Obligations.ReservedCommandsAreRefused := by
  intro s ignored low2 low3 refused
  have refuses : .next s.badCommand = refused := congrArg Host.Outcome.next s.badCommand_eq
  exact ⟨refuses, refuses, refuses⟩

section
variable {s : State} {w : Word}

theorem State.cmdWrite_nop (op : w.extractLsb' 0 4 = 0x0) : s.cmdWrite w = s := by
  rw [State.cmdWrite, op]
  rfl

theorem State.cmdWrite_start (op : w.extractLsb' 0 4 = 0x1) : s.cmdWrite w = s.startCommand := by
  rw [State.cmdWrite, op]
  rfl

theorem State.cmdWrite_clrStats (op : w.extractLsb' 0 4 = 0x2) : s.cmdWrite w = s.clearStats := by
  rw [State.cmdWrite, op]
  rfl

theorem State.cmdWrite_reserved (op : 3 ≤ (w.extractLsb' 0 4).toNat) : s.cmdWrite w = s.badCommand := by
  have other {n : BitVec 4} (small : n.toNat < 3) : w.extractLsb' 0 4 ≠ n := fun same => by
    rw [same] at op
    omega
  rw [State.cmdWrite, if_neg (other (by decide)), if_neg (other (by decide)), if_neg (other (by decide))]

end

theorem exec_regWrite_mapped {addr : Half} {target : BusTarget} (mapped : decodeAddr addr = some target) (w : Word)
    (s : State) : exec (.regWrite addr w) s = .next ((s.respond 0 false).writeTarget w target) := by
  rw [exec_eq_after, after_regWrite_mapped mapped]

/-- Settles O42: the write answers the bus and then runs CMD_WRITE, which branches on bits 3:0. -/
theorem cmdWriteRunsTheCommand : Obligations.CmdWriteRunsTheCommand := by
  intro s w t
  have written : exec (.regWrite 0x000 w) s = .next (t.cmdWrite w) :=
    exec_regWrite_mapped (target := .cmd) (by decide) w s
  rw [written]
  exact ⟨fun op => congrArg _ (State.cmdWrite_nop op), fun op => congrArg _ (State.cmdWrite_start op),
    fun op => congrArg _ (State.cmdWrite_clrStats op), fun op => congrArg _ (State.cmdWrite_reserved op)⟩

/-! ### Loss strobes -/

/-- Settles O52: each strobe is one increment of FRAMES_LOST, and two increments add 2. -/
theorem lossStrobesAreCounted : Obligations.LossStrobesAreCounted := by
  intro s
  have both : s.stats.framesLost + 1 + 1 = s.stats.framesLost + 2 := BitVec.add_assoc _ 1 1
  refine ⟨rfl, rfl, ?_⟩
  rw [← both]
  rfl

/-! ### Writes -/

/-- RX_STATUS_WRITE (R187) as one update. -/
theorem State.rxStatusWrite_eq (s : State) (w : Word) :
    s.rxStatusWrite w = { s with rxValid := s.rxValid && !w.getLsbD 31 } := by
  rw [State.rxStatusWrite]
  cases w.getLsbD 31 with
  | false => simp
  | true => simp [State.setRxValid]

/-- Settles O46: each of the four words has a write of its own, and each write is one update. -/
theorem controlWritesSetTheirFields : Obligations.ControlWritesSetTheirFields := by
  intro s w out
  refine ⟨?cfg, ?status, ?rxStatus, ?msgLen⟩
  case cfg => exact exec_regWrite_mapped (target := .cfg) (by decide) w s
  case status =>
    rw [exec_regWrite_mapped (target := .status) (by decide), State.writeTarget, State.statusWrite_eq]
    rfl
  case rxStatus =>
    rw [exec_regWrite_mapped (target := .rxStatus) (by decide), State.writeTarget, State.rxStatusWrite_eq]
    rfl
  case msgLen => exact exec_regWrite_mapped decodeAddr_msgLen w s

/-- TX_BUF_WRITE changes `mem` only (R189). -/
theorem State.txBufWrite_eq_setMem (s : State) (k : Nat) (w : Word) :
    s.txBufWrite k w = s.setMem (s.txBufWrite k w).mem :=
  s.memWrite_eq_setMem .tx k _

/-- A TX_BUF write leaves every byte outside its four lanes (R189). -/
theorem State.bufByte_txBufWrite_other {s : State} (size : s.params.maxDataSize ≤ 4096) (w : Word) {b : Buffer}
    {k i : Nat} (other : ¬(b = .tx ∧ k ≤ i ∧ i < k + 4)) : (s.txBufWrite k w).bufByte b i = s.bufByte b i := by
  rw [State.txBufWrite, State.bufByte_memWrite s size, if_neg]
  rintro ⟨tx, low, high, -⟩
  exact other ⟨tx, low, high⟩

/-- Settles O47: the write of the four lanes, on the state with its bus response. -/
theorem txBufWriteStoresItsLanes : Obligations.TxBufWriteStoresItsLanes := by
  intro s word w legal inWindow
  have size : (s.respond 0 false).params.maxDataSize ≤ 4096 := Params.size_le legal
  refine ⟨(s.respond 0 false).txBufWrite (4 * word) w, exec_regWrite_mapped (decodeAddr_txBuf inWindow) w s,
    State.txBufWrite_eq_setMem _ _ _, fun j lane exist => ?lanes, fun k other => ?tx, fun k => ?rx,
    fun k beyond => ?outside⟩
  case lanes => exact State.bufByte_txBufWrite size w lane exist
  case tx => exact State.bufByte_txBufWrite_other size w fun h => other h.2
  case rx => exact State.bufByte_txBufWrite_other size w fun h => nomatch h.1
  case outside => exact State.bufByte_outside _ _ (by simpa [State.txBufWrite, State.respond] using beyond)

/-! ### Reads -/

theorem exec_regRead_mapped {addr : Half} {target : BusTarget} (mapped : decodeAddr addr = some target) (s : State) :
    exec (.regRead addr) s = .next (s.respond (s.readTarget target) false) := by
  rw [exec_eq_after, after_regRead_mapped mapped]

/-- Word `word` of the RX_BUF window (20_memory R61). -/
theorem decodeAddr_rxBuf {word : Nat} (h : word < 1024) :
    decodeAddr (BitVec.ofNat 16 (0x2000 + 4 * word)) = some (.rxBuf (4 * word)) := by
  have address : (BitVec.ofNat 16 (0x2000 + 4 * word)).toNat = 0x2000 + 4 * word :=
    Nat.mod_eq_of_lt (by omega)
  simp only [decodeAddr, address, ite_eq_iff, Option.some.injEq, reduceCtorEq, and_false, false_or,
    BusTarget.rxBuf.injEq]
  omega

/-- Byte `j` of a window word is byte `k + j` of its buffer (R61, R62). -/
theorem State.windowWord_lane (s : State) (b : Buffer) (k : Nat) {j : Nat} (lane : j < 4) :
    (s.windowWord b k).extractLsb' (8 * j) 8 = s.bufByte b (k + j) := by
  obtain ⟨lane0, lane1, lane2, lane3⟩ :=
    laneOf_wordOfLanes (s.bufByte b k) (s.bufByte b (k + 1)) (s.bufByte b (k + 2)) (s.bufByte b (k + 3))
  interval_cases j
  · exact lane0
  · exact lane1
  · exact lane2
  · exact lane3

/-! The fields of the words that pack several: each is a slice of a concatenation, and so is a single bit. -/

theorem ofBool_beq_one (b : Bool) : (BitVec.ofBool b == 1#1) = b := by
  cases b <;> rfl

theorem TxState.bit_beq_one (t : TxState) : (t.bit == 1#1) = decide (t = .awaitingAck) := by
  cases t <;> rfl

theorem State.cfgWord_fields (s : State) :
    s.cfgWord.getLsbD 0 = s.cfg.reackDup ∧ s.cfgWord.getLsbD 1 = s.cfg.persist ∧
      s.cfgWord.getLsbD 2 = s.cfg.irqEn ∧ s.cfgWord.extractLsb' 3 29 = 0 := by
  simp (disch := decide) only [State.cfgWord, BitVec.getLsbD_eq_extractLsb', BitVec.extractLsb'_append_eq_of_le,
    BitVec.extractLsb'_append_eq_of_add_le]
  simp [ofBool_beq_one]

theorem State.statusWord_fields (s : State) :
    s.statusWord.getLsbD 0 = decide (s.txState = .awaitingAck) ∧ s.statusWord.extractLsb' 1 1 = s.txSeq ∧
      s.statusWord.extractLsb' 2 1 = s.rxExp ∧ s.statusWord.getLsbD 3 = s.status.done ∧
      s.statusWord.getLsbD 4 = s.status.success ∧ s.statusWord.getLsbD 5 = s.status.cmdErr ∧
      s.statusWord.extractLsb' 6 2 = 0 ∧ s.statusWord.extractLsb' 8 4 = s.status.err ∧
      s.statusWord.extractLsb' 12 4 = 0 ∧ s.statusWord.extractLsb' 16 8 = s.retry ∧
      s.statusWord.extractLsb' 24 8 = 0 := by
  simp (disch := decide) only [State.statusWord, BitVec.getLsbD_eq_extractLsb', BitVec.extractLsb'_append_eq_of_le,
    BitVec.extractLsb'_append_eq_of_add_le]
  simp [ofBool_beq_one, TxState.bit_beq_one]

theorem State.condWord_fields (s : State) :
    s.condWord.extractLsb' 0 4 = s.cond ∧ s.condWord.extractLsb' 4 28 = 0 :=
  ⟨BitVec.extractLsb'_append_eq_right, BitVec.extractLsb'_append_eq_left⟩

theorem State.msgLenWord_fields (s : State) :
    s.msgLenWord.extractLsb' 0 16 = s.msgLen ∧ s.msgLenWord.extractLsb' 16 16 = 0 :=
  ⟨BitVec.extractLsb'_append_eq_right, BitVec.extractLsb'_append_eq_left⟩

theorem State.rxStatusWord_fields (s : State) :
    s.rxStatusWord.extractLsb' 0 16 = s.rxLen ∧ s.rxStatusWord.extractLsb' 16 1 = s.rxSeq ∧
      s.rxStatusWord.extractLsb' 17 14 = 0 ∧ s.rxStatusWord.getLsbD 31 = s.rxValid := by
  simp (disch := decide) only [State.rxStatusWord, BitVec.getLsbD_eq_extractLsb',
    BitVec.extractLsb'_append_eq_of_le, BitVec.extractLsb'_append_eq_of_add_le]
  simp [ofBool_beq_one]

theorem State.param0Word_fields (s : State) :
    s.param0Word.extractLsb' 0 16 = BitVec.ofNat 16 s.params.maxDataSize ∧
      s.param0Word.extractLsb' 16 8 = BitVec.ofNat 8 s.params.maxRetries ∧ s.param0Word.extractLsb' 24 8 = 0 := by
  simp (disch := decide) only [State.param0Word, BitVec.extractLsb'_append_eq_of_le,
    BitVec.extractLsb'_append_eq_of_add_le]
  simp

/-- Legal parameters fit their fields of PARAM0 (00_scope R7, 10_state R34). -/
theorem State.param0Word_legal {s : State} (legal : s.params.legal = true) :
    (s.param0Word.extractLsb' 0 16).toNat = s.params.maxDataSize ∧
      (s.param0Word.extractLsb' 16 8).toNat = s.params.maxRetries ∧ s.param0Word.extractLsb' 24 8 = 0 := by
  obtain ⟨-, size, retries, -⟩ := (Params.legal_iff _).1 legal
  obtain ⟨sizeField, retriesField, rest⟩ := s.param0Word_fields
  rw [sizeField, retriesField]
  exact ⟨Nat.mod_eq_of_lt (by omega), Nat.mod_eq_of_lt (by omega), rest⟩

/-- A legal TIMEOUT_TICKS fits PARAM1 (R7, R34). -/
theorem State.param1Word_toNat {s : State} (legal : s.params.legal = true) :
    s.param1Word.toNat = s.params.timeoutTicks := by
  obtain ⟨-, -, -, ticks⟩ := (Params.legal_iff _).1 legal
  exact Nat.mod_eq_of_lt (by omega)

/-- Settles O45: each address names its word, and each word has the fields of R192. -/
theorem readReturnsTheMappedValue : Obligations.ReadReturnsTheMappedValue := by
  intro s reads
  have read {addr : Half} {target : BusTarget} (mapped : decodeAddr addr = some target) :
      reads addr (s.readTarget target) := exec_regRead_mapped mapped s
  have stat {addr : Half} (r : StatReg) (mapped : decodeAddr addr = some (.stat r)) :
      reads addr (s.stats.word r) := read mapped
  refine ⟨read (target := .cmd) (by decide), ⟨_, read (target := .cfg) (by decide), s.cfgWord_fields⟩,
    ⟨_, read (target := .status) (by decide), s.statusWord_fields⟩,
    ⟨_, read (target := .cond) (by decide), s.condWord_fields⟩,
    ⟨_, read decodeAddr_msgLen, s.msgLenWord_fields⟩,
    ⟨_, read (target := .rxStatus) (by decide), s.rxStatusWord_fields⟩, fun legal => ⟨?param0, ?param1⟩,
    stat .framesSent (by decide), stat .framesReceived (by decide), stat .acksSent (by decide),
    stat .acksReceived (by decide), stat .retransmissions (by decide), stat .framesLost (by decide),
    stat .startTime (by decide), stat .endTime (by decide), read (target := .time) (by decide),
    read (target := .txCsum) (by decide), fun word inWindow => ⟨?tx, ?rx⟩, fun b k => s.bufByte_outside b⟩
  case param0 => exact ⟨_, read (target := .param0) (by decide), State.param0Word_legal legal⟩
  case param1 => exact ⟨_, read (target := .param1) (by decide), State.param1Word_toNat legal⟩
  case tx => exact ⟨_, read (decodeAddr_txBuf inWindow), fun _ => s.windowWord_lane .tx _⟩
  case rx => exact ⟨_, read (decodeAddr_rxBuf inWindow), fun _ => s.windowWord_lane .rx _⟩

end Sys2Proof.Machine
end

section
/-! PROOFS. The channel agent (44_network_path): how one slot ages, what it shows at its ports and what it takes, proved
for either direction; and the fate of a frame in flight over the cycles to come. -/

namespace Sys2Proof.Machine

section
variable {α : Type} {net : NetConfig} {tick : Bool} {slot : Option (Flight α)} {f : Flight α}

/-! ### A frame in flight -/

/-- A frame in flight after a cycle that it waits out (R214). -/
def Flight.aged (tick : Bool) (f : Flight α) : Flight α := ⟨f.frame, f.ticks + tick.toNat, f.fate, f.wait - 1⟩

theorem keptSlot_quiet (quiet : f.event net tick = .quiet) : keptSlot net tick (some f) = some (f.aged tick) := by
  simp [keptSlot, quiet, Flight.aged]

/-- The fates the loss law allows (R217). -/
theorem Flight.lawful_fate (lawful : f.lawful net = true) :
    (f.fate = .deliver → net.loss ≠ .always) ∧ (f.fate = .drop → net.loss ≠ .never) := by
  simp only [Flight.lawful, Bool.and_eq_true, beq_iff_eq] at lawful
  constructor <;> rintro fate loss <;> simp [fate, loss] at lawful

theorem Flight.lawful_ticks_le (lawful : f.lawful net = true) (deliver : f.fate = .deliver) :
    f.ticks ≤ net.maxDelay := by
  simp only [Flight.lawful, deliver, Bool.and_eq_true] at lawful
  simpa using lawful.2

theorem Flight.aged_lawful (ordered : net.minDelay ≤ net.maxDelay) (lawful : f.lawful net = true)
    (quiet : f.event net tick = .quiet) : (f.aged tick).lawful net = true := by
  have kept := keptSlot_lawful (tick := tick) ordered (slot := some f) lawful
  rwa [keptSlot_quiet quiet] at kept

/-! ### A slot in one cycle -/

/-- A slot presents a frame in flight that is to be delivered and has waited its smallest delay. -/
theorem slotEvent_present {a : α} (due : slotEvent net tick slot = .present a) :
    ∃ f, slot = some f ∧ a = f.frame ∧ f.fate = .deliver ∧ net.minDelay ≤ f.ticks := by
  cases slot with
  | none => simp [slotEvent] at due
  | some f =>
    simp only [slotEvent] at due
    rcases f.event_cases net tick with ⟨event, -⟩ | ⟨event, -⟩ | ⟨event, deliver, ripe, -⟩ | ⟨event, -⟩
    · simp [event] at due
    · simp [event] at due
    · exact ⟨f, rfl, by simpa [event] using due.symm, deliver, ripe⟩
    · simp [event] at due

/-- A slot reports the loss of a frame in flight that is to be dropped. -/
theorem slotEvent_lost (due : slotEvent net tick slot = .lost) : ∃ f, slot = some f ∧ f.fate = .drop := by
  cases slot with
  | none => simp [slotEvent] at due
  | some f =>
    simp only [slotEvent] at due
    rcases f.event_cases net tick with ⟨-, drop, -⟩ | ⟨-, drop, -⟩ | ⟨event, -⟩ | ⟨event, -⟩
    · exact ⟨f, rfl, drop⟩
    · exact ⟨f, rfl, drop⟩
    · simp [event] at due
    · simp [event] at due

/-- What a slot does is what its direction's ports show, with the sample's own `valid`, `own` and `lost` below it
(R211, R215), and what it holds after a cycle without an emission. -/
theorem ports_show_slotEvent (valid lost : Bool) (own : α) (draw : Draw) (emitted : Option α) :
    (slotEvent net tick slot = .lost →
      (lost || slotLost net tick slot) = true ∧ (valid || (slotFrame net tick slot).isSome) = valid) ∧
    (∀ a, slotEvent net tick slot = .present a →
      (lost || slotLost net tick slot) = lost ∧ (valid || (slotFrame net tick slot).isSome) = true ∧
        (valid = false → (if valid then own else (slotFrame net tick slot).getD own) = a)) ∧
    (slotEvent net tick slot = .quiet →
      (lost || slotLost net tick slot) = lost ∧ (valid || (slotFrame net tick slot).isSome) = valid) ∧
    (valid = true → (valid || (slotFrame net tick slot).isSome) = true ∧
      (if valid then own else (slotFrame net tick slot).getD own) = own) ∧
    (emitted = none → nextSlot net draw slot emitted tick = keptSlot net tick slot) := by
  obtain ⟨quiet, present, loss⟩ := slotFrame_lost_of_event (net := net) (tick := tick) (slot := slot)
  refine ⟨fun event => ?_, fun a event => ?_, fun event => ?_, ?_, ?_⟩
  · simp [loss event]
  · simp +contextual [present a event]
  · simp [quiet event]
  · rintro rfl
    simp
  · rintro rfl
    rfl

/-- A lawful slot that turns its port on (R210, R213, R214, R217). -/
theorem port_on_of_lawful {valid : Bool} {own : α} (draw : Draw) (emitted : Option α)
    (lawful : slot.all (Flight.lawful net) = true) (off : valid = false)
    (on : (valid || (slotFrame net tick slot).isSome) = true) :
    net.loss ≠ .always ∧
      ∃ f, slot = some f ∧ (if valid then own else (slotFrame net tick slot).getD own) = f.frame ∧
        net.minDelay ≤ f.ticks ∧ f.ticks ≤ net.maxDelay ∧
        (emitted = none → nextSlot net draw slot emitted tick = none) := by
  subst off
  obtain ⟨a, shown⟩ := Option.isSome_iff_exists.1 (by simpa using on)
  have due := slotFrame_eq_some_iff.1 shown
  have left : keptSlot net tick slot = none := keptSlot_of_event (by simp [due])
  obtain ⟨f, rfl, rfl, deliver, ripe⟩ := slotEvent_present due
  refine ⟨(Flight.lawful_fate lawful).1 deliver, f, rfl, by simp [shown], ripe,
    Flight.lawful_ticks_le lawful deliver, ?_⟩
  rintro rfl
  exact left

/-- A lawful slot that asserts its loss strobe (R210, R217). -/
theorem strobe_on_of_lawful {lost : Bool} (draw : Draw) (emitted : Option α)
    (lawful : slot.all (Flight.lawful net) = true) (off : lost = false)
    (on : (lost || slotLost net tick slot) = true) :
    net.loss ≠ .never ∧ slot.isSome = true ∧ (emitted = none → nextSlot net draw slot emitted tick = none) := by
  subst off
  have due := slotLost_iff.1 (by simpa using on)
  have left : keptSlot net tick slot = none := keptSlot_of_event (by simp [due])
  obtain ⟨f, rfl, drop⟩ := slotEvent_lost due
  refine ⟨(Flight.lawful_fate lawful).2 drop, rfl, ?_⟩
  rintro rfl
  exact left

/-! ### A frame over the cycles to come -/

theorem slotHistory_quiet (quiet : f.event net tick = .quiet) (ticks : List Bool) :
    slotHistory net (some f) (tick :: ticks) = .quiet :: slotHistory net (some (f.aged tick)) ticks := by
  rw [slotHistory, keptSlot_quiet quiet, slotEvent, quiet]

/-- After its fate a frame shows nothing more (R211, R213). -/
theorem slotHistory_met {event : SlotEvent α} (met : f.event net tick = event) (ends : event ≠ .quiet)
    (ticks : List Bool) :
    slotHistory net (some f) (tick :: ticks) = event :: List.replicate ticks.length .quiet := by
  have due : slotEvent net tick (some f) = event := met
  rw [slotHistory, keptSlot_of_event (by rwa [due]), due, slotHistory_none]

/-- A dropped frame is reported once, after its wait, and never presented (R211, R214). -/
theorem slotHistory_drop {ticks : List Bool} (drop : f.fate = .drop) (reaches : f.wait < ticks.length) :
    slotHistory net (some f) ticks =
      List.replicate f.wait .quiet ++ .lost :: List.replicate (ticks.length - f.wait - 1) .quiet := by
  induction ticks generalizing f with
  | nil => simp at reaches
  | cons tick ticks ih =>
    rw [List.length_cons] at reaches ⊢
    rcases f.event_cases net tick with ⟨lost, -, waited⟩ | ⟨quiet, -, waits⟩ | ⟨-, deliver, -⟩ | ⟨-, deliver, -⟩
    · rw [slotHistory_met lost (by simp), waited]
      simp
    · obtain ⟨wait, waitEq⟩ := Nat.exists_eq_succ_of_ne_zero waits
      have agedWait : (f.aged tick).wait = wait := by simp [Flight.aged, waitEq]
      rw [slotHistory_quiet quiet, ih (f := f.aged tick) drop (by omega), agedWait, waitEq,
        List.replicate_succ, List.cons_append, show ticks.length + 1 - wait.succ - 1 = ticks.length - wait - 1 by omega]
    · simp [drop] at deliver
    · simp [drop] at deliver

/-- A delivered frame is presented once, within the delay bounds, by the time its wait and the smallest delay are over
(R211, R213, R214). -/
theorem slotHistory_deliver {ticks : List Bool} (ordered : net.minDelay ≤ net.maxDelay)
    (lawful : f.lawful net = true) (deliver : f.fate = .deliver) (reaches : f.wait < ticks.length)
    (ripens : net.minDelay ≤ f.ticks + ticks.dropLast.count true) :
    ∃ k, k < ticks.length ∧
      slotHistory net (some f) ticks =
        List.replicate k .quiet ++ .present f.frame :: List.replicate (ticks.length - k - 1) .quiet ∧
      net.minDelay ≤ f.ticks + (ticks.take k).count true ∧ f.ticks + (ticks.take k).count true ≤ net.maxDelay := by
  induction ticks generalizing f with
  | nil => simp at reaches
  | cons tick ticks ih =>
    rcases f.event_cases net tick with ⟨-, drop, -⟩ | ⟨-, drop, -⟩ | ⟨present, -, ripe, -⟩ | ⟨quiet, -, waits⟩
    · simp [deliver] at drop
    · simp [deliver] at drop
    · refine ⟨0, by simp, ?_, by simpa using ripe, by simpa using Flight.lawful_ticks_le lawful deliver⟩
      rw [slotHistory_met present (by simp)]
      simp
    · -- In the last cycle listed the wait and the smallest delay are over, so a quiet cycle is not the last.
      have more : ticks ≠ [] := by
        rintro rfl
        simp only [List.length_singleton, List.dropLast_singleton, List.count_nil] at reaches ripens
        omega
      have ticked (rest : List Bool) :
          f.ticks + (tick :: rest).count true = (f.aged tick).ticks + rest.count true := by
        cases tick
        · simp [Flight.aged]
        · simp [Flight.aged]
          omega
      have agedWait : (f.aged tick).wait = f.wait - 1 := rfl
      have pos := List.length_pos_iff.2 more
      rw [List.length_cons] at reaches
      rw [List.dropLast_cons_of_ne_nil more, ticked] at ripens
      obtain ⟨k, below, history, low, high⟩ :=
        ih (Flight.aged_lawful ordered lawful quiet) deliver (by omega) ripens
      refine ⟨k + 1, by simpa using below, ?_, ?_, ?_⟩
      · rw [slotHistory_quiet quiet, history, List.length_cons, List.replicate_succ, List.cons_append,
          show ticks.length + 1 - (k + 1) - 1 = ticks.length - k - 1 by omega]
        rfl
      · rwa [List.take_succ_cons, ticked]
      · rwa [List.take_succ_cons, ticked]

/-! ### A slot after a cycle -/

/-- An emission takes the slot, with the fate the loss law leaves (R212, R217). -/
theorem nextSlot_emitted {emitted : Option α} {a : α} (draw : Draw) (emits : emitted = some a) :
    ∃ fate, ((net.loss = .never → fate = .deliver) ∧ (net.loss = .always → fate = .drop) ∧
        (net.loss = .either → fate = draw.fate)) ∧
      nextSlot net draw slot emitted tick = some ⟨a, 0, fate, draw.wait⟩ := by
  refine ⟨settle net.loss draw.fate, ⟨?_, ?_, ?_⟩, by rw [emits]; rfl⟩ <;> intro loss <;> rw [loss] <;> rfl

/-- A frame whose fate does not fall in the cycle waits on (R214). -/
theorem nextSlot_waits {emitted : Option α} (draw : Draw) (holds : slot = some f)
    (quiet : f.event net tick = .quiet) (silent : emitted = none) :
    nextSlot net draw slot emitted tick =
      some ⟨f.frame, f.ticks + (if tick then 1 else 0), f.fate, f.wait - 1⟩ := by
  rw [silent, holds, nextSlot, keptSlot_quiet quiet, Flight.aged]
  cases tick <;> rfl

end

/-! ### The statements -/

theorem Channel.lawful_iff (c : Channel) :
    c.lawful = true ↔ c.net.minDelay ≤ c.net.maxDelay ∧ c.data.all (Flight.lawful c.net) = true ∧
      c.ack.all (Flight.lawful c.net) = true := by
  simp [Channel.lawful, and_assoc]

/-- Settles O55: each direction's ports show what its slot does, and a frame in flight meets its fate once. -/
theorem channelPresentsOnlyItsFrames : Obligations.ChannelPresentsOnlyItsFrames := by
  refine ⟨fun c st o => ?ports, fun c st o lawful => ?bounds, fun α net f ticks ordered lawful reaches => ?fates⟩
  case ports =>
    obtain ⟨dataLost, dataShown, dataQuiet, dataOwn, dataKept⟩ :=
      ports_show_slotEvent (net := c.net) (tick := st.sample.tick) (slot := c.data) st.sample.rxdValid
        st.sample.dataLost st.sample.rxdFrame st.dataDraw o.txd
    exact ⟨dataLost, dataShown, dataQuiet, dataOwn, dataKept, ports_show_slotEvent st.sample.rxaValid
      st.sample.ackLost st.sample.rxaFrame st.ackDraw o.txa⟩
  case bounds =>
    obtain ⟨-, data, ack⟩ := c.lawful_iff.1 lawful
    exact ⟨port_on_of_lawful st.dataDraw o.txd data, port_on_of_lawful st.ackDraw o.txa ack,
      strobe_on_of_lawful st.dataDraw o.txd data, strobe_on_of_lawful st.ackDraw o.txa ack⟩
  case fates =>
    exact ⟨fun drop => slotHistory_drop drop reaches,
      fun deliver => slotHistory_deliver ordered lawful deliver reaches⟩

/-- Whatever else a clock edge does, it leaves the channel that took its emissions, in reset too. -/
theorem edge_chan (s : State) : s.edge.chan = s.chan.after s.stimulus s.edge.out := rfl

/-- Settles O56: the channel after a step is `Channel.after` of the step's outputs, slot by slot. -/
theorem channelTakesEmissions : Obligations.ChannelTakesEmissions := by
  intro s t stepped
  obtain ⟨-, rfl⟩ := (step_next_iff s t).1 stepped
  rw [edge_chan]
  exact ⟨fun _ => nextSlot_emitted s.stimulus.dataDraw, fun _ => nextSlot_emitted s.stimulus.ackDraw,
    fun _ => nextSlot_waits s.stimulus.dataDraw, fun _ => nextSlot_waits s.stimulus.ackDraw, rfl⟩

end Sys2Proof.Machine
end

section
/-! PROOFS. The outcome a host reads (60_exceptions R231, R232, R234): a bus request leaves it, unless it is a START in
IDLE, and sub-steps 2 to 4 leave it unless they end a message. -/

namespace Sys2Proof.Machine

/-! ### The outcome -/

/-- The host reads the same outcome in `b` as in `a`: SUCCESS and ERR are the same, and DONE is not set anew. -/
def Status.KeepsOutcome (a b : Status) : Prop :=
  b.success = a.success ∧ b.err = a.err ∧ (b.done = true → a.done = true)

/-- The outcome of a message that has ended: success, or PermanentFailure (60_exceptions R234). -/
def Status.ShowsEnd (a : Status) : Prop :=
  a.done = true ∧ ((a.success = true ∧ a.err = 0) ∨ (a.success = false ∧ a.err = 0x4))

theorem Status.KeepsOutcome.not_changed {a b : Status} (keeps : a.KeepsOutcome b) :
    ¬(b.success ≠ a.success ∨ b.err ≠ a.err ∨ (b.done = true ∧ a.done = false)) := by
  obtain ⟨success, err, done⟩ := keeps
  rintro (changed | changed | ⟨set, clear⟩)
  · exact changed success
  · exact changed err
  · simp [done set] at clear

/-! ### Sub-step 1 -/

/-- A command leaves the outcome, unless it is a START with no message in flight (R232). -/
theorem State.cmdWrite_keepsOutcome {s : State} {w : Word}
    (busy : w.extractLsb' 0 4 = 0x1 → s.txState = .awaitingAck) :
    s.status.KeepsOutcome (s.cmdWrite w).status := by
  by_cases start : w.extractLsb' 0 4 = 0x1
  · rw [State.cmdWrite_start start, State.startCommand_busy (busy start)]
    exact ⟨rfl, rfl, id⟩
  · simp only [State.cmdWrite, if_neg start]
    split_ifs <;> exact ⟨rfl, rfl, id⟩

/-- Of the other words a write reaches STATUS alone, where it can clear DONE and CMDERR (R186). -/
theorem State.writeTarget_keepsOutcome {s : State} {w : Word} {target : BusTarget}
    (busy : target = .cmd → w.extractLsb' 0 4 = 0x1 → s.txState = .awaitingAck) :
    s.status.KeepsOutcome (s.writeTarget w target).status := by
  cases target with
  | cmd => exact State.cmdWrite_keepsOutcome (busy rfl)
  | status =>
    rw [State.writeTarget, State.statusWrite_eq]
    exact ⟨rfl, rfl, Bool.and_elim_left⟩
  | rxStatus => rw [State.writeTarget, State.rxStatusWrite]; split <;> exact ⟨rfl, rfl, id⟩
  | txBuf k => rw [State.writeTarget, State.txBufWrite, State.memWrite_status]; exact ⟨rfl, rfl, id⟩
  | _ => exact ⟨rfl, rfl, id⟩

/-- A bus request leaves the outcome, unless it writes START and no message is in flight. -/
theorem busStep_keepsOutcome {I : Sample} {s : State} (busy : I.commands 0x1 = true → s.txState = .awaitingAck) :
    s.status.KeepsOutcome (busStep I s).status := by
  rw [busStep]
  cases valid : I.busValid with
  | false => exact ⟨rfl, rfl, id⟩
  | true =>
    cases write : I.busWe with
    | false =>
      obtain ⟨rdata, err, read⟩ := after_regRead I.busAddr s
      simp only [if_true, Bool.false_eq_true, if_false, read]
      exact ⟨rfl, rfl, id⟩
    | true =>
      cases decoded : decodeAddr I.busAddr with
      | none =>
        simp only [if_true, after_regWrite_unmapped decoded]
        exact ⟨rfl, rfl, id⟩
      | some target =>
        simp only [if_true, after_regWrite_mapped decoded]
        refine State.writeTarget_keepsOutcome (s := s.respond 0 false) fun cmd op => busy ?_
        exact (I.commands_iff _).2 ⟨valid, write, (decodeAddr_eq_cmd_iff _).1 (cmd ▸ decoded), op⟩

/-- With a message in flight a START is Busy, and without a START no request starts one. -/
theorem busStep_txState {I : Sample} {s : State} (busy : I.commands 0x1 = true → s.txState = .awaitingAck) :
    (busStep I s).txState = s.txState := by
  rw [(busStep_transmitter I s).1]
  split
  case isTrue starts => exact (busy ((s.starts_iff I).1 starts).1).symm
  case isFalse => rfl

/-! ### Sub-steps 2 to 4 -/

/-- From `s` to `t` the transmitter and STATUS stay as they are, or a message ends and STATUS shows how. -/
def State.KeepsOrEnds (s t : State) : Prop :=
  (t.txState = s.txState ∧ t.status = s.status) ∨
    (s.txState = .awaitingAck ∧ t.txState = .idle ∧ t.status.ShowsEnd)

/-- A message that has ended does not end again. -/
theorem State.KeepsOrEnds.trans {s t u : State} (h : s.KeepsOrEnds t) (h' : t.KeepsOrEnds u) : s.KeepsOrEnds u := by
  rcases h with ⟨txState, status⟩ | ⟨waits, idle, shows⟩
  · rwa [State.KeepsOrEnds, txState, status] at h'
  · rcases h' with ⟨txState, status⟩ | ⟨waitsOn, -⟩
    · exact .inr ⟨waits, txState.trans idle, status ▸ shows⟩
    · simp [idle] at waitsOn

theorem dataStep_keepsOrEnds (I : Sample) (s : State) : s.KeepsOrEnds (dataStep I s) := by
  refine .inl ⟨by simp, ?_⟩
  rcases dataStep_cases I s with ⟨-, -, h⟩ | ⟨-, -, h⟩ | ⟨-, -, h⟩ | ⟨-, -, h⟩ <;> rw [h]
  · rw [State.rxDrop_eq]; rfl
  · rw [State.rxAccept_eq]; rfl
  · rw [State.rxDuplicate_eq]; rfl

/-- The ack of the message in flight ends it with success (R135). -/
theorem ackStep_keepsOrEnds (I : Sample) (s : State) : s.KeepsOrEnds (ackStep I s) := by
  cases done : s.completes I with
  | false =>
    obtain ⟨txState, -, status⟩ := ackStep_refused done
    exact .inl ⟨txState, status⟩
  | true =>
    rw [ackStep_completes done, State.ackAccept_eq]
    exact .inr ⟨State.awaitingAck_of_completes done, rfl, rfl, .inl ⟨rfl, rfl⟩⟩

/-- A timeout without budget ends the message with PermanentFailure (R139). -/
theorem timeoutStep_keepsOrEnds (s : State) : s.KeepsOrEnds (timeoutStep s) := by
  rcases timeoutStep_cases s with ⟨-, h⟩ | ⟨-, -, h⟩ | ⟨timer, -, h⟩ <;> rw [h]
  · exact .inl ⟨rfl, rfl⟩
  · exact .inl ⟨rfl, rfl⟩
  · exact .inr ⟨(s.timedOut_iff.1 timer).1, rfl, rfl, .inr ⟨rfl, rfl⟩⟩

/-! ### The step -/

/-- After its bus request a cycle keeps the outcome or ends the message. -/
theorem edge_keepsOrEnds {s : State} (running : s.sample.rstN = true) : s.requested.KeepsOrEnds s.edge := by
  have checked : s.requested.KeepsOrEnds s.checked :=
    ((dataStep_keepsOrEnds _ _).trans (ackStep_keepsOrEnds _ _)).trans (timeoutStep_keepsOrEnds _)
  rw [edge_eq running]
  exact checked

/-- A cycle that ends the message it began with latches END_TIME (R234). -/
theorem edge_endTime {s : State} (running : s.sample.rstN = true) (waits : s.requested.txState = .awaitingAck)
    (idle : s.edge.txState = .idle) : s.edge.stats.endTime = s.time := by
  rw [edge_eq running] at idle ⊢
  simp only [checked_stats_eq]
  exact if_pos ⟨waits, idle⟩

/-- Settles O30: the bus request changes the outcome by a START in IDLE only, and the rest of the cycle by ending the
message only. -/
theorem outcomeChangesOnlyAtTermination : Obligations.OutcomeChangesOnlyAtTermination := by
  intro s t stepped running
  obtain ⟨-, rfl⟩ := (step_next_iff s t).1 stepped
  have rest := edge_keepsOrEnds running
  refine ⟨fun changed => ?_, fun waits idle => ?_⟩
  · by_cases start : s.txState = .idle ∧ s.sample.commands 0x1 = true
    · exact .inr ⟨start.1, (s.sample.commands_iff _).1 start.2⟩
    · have busy (command : s.sample.commands 0x1 = true) : s.txState = .awaitingAck := by
        cases txState : s.txState with
        | idle => exact absurd ⟨txState, command⟩ start
        | awaitingAck => rfl
      rcases rest with ⟨-, status⟩ | ⟨waits, idle, -⟩
      · have keeps : s.status.KeepsOutcome s.edge.status := status ▸ busStep_keepsOutcome (s := s.cycleStart) busy
        exact absurd changed keeps.not_changed
      · exact .inl ⟨(busStep_txState (s := s.cycleStart) busy).symm.trans waits, idle⟩
  · have waitsOn : s.requested.txState = .awaitingAck :=
      (busStep_txState (s := s.cycleStart) fun _ => waits).trans waits
    rcases rest with ⟨stays, -⟩ | ⟨-, -, done, shows⟩
    · simp [idle, waitsOn] at stays
    · exact ⟨done, edge_endTime running waitsOn idle, shows⟩

end Sys2Proof.Machine
end

section
/-! PROOFS. The two cycles in which no operation but a tick runs (70_reset R260, R262): the cycle in reset, and a cycle
without bus request or frame from IDLE. -/

namespace Sys2Proof.Machine

/-! ### The cycle in reset -/

/-- TXF after reset has a byte for each payload position (10_state R25). -/
theorem State.resetWith_payload_length (p : Params) (epoch : Nat) (chan : Channel) (script : List Stimulus) :
    (State.resetWith p epoch chan script).txf.payload.length = p.maxDataSize := by
  simp [State.resetWith]

/-- Settles O6: a step in reset leaves `State.resetWith`, whose fields are the reset values. -/
theorem resetCycleGivesResetValues : Obligations.ResetCycleGivesResetValues := by
  intro s legal reset
  have stepped : step s = .next s.edge := step_legal legal
  rw [edge_reset reset] at stepped
  exact ⟨_, stepped, rfl, rfl, rfl, rfl, rfl, rfl, rfl, rfl, rfl, State.resetWith_payload_length _ _ _ _,
    rfl, rfl, rfl, rfl, rfl, rfl, rfl, rfl, rfl, rfl, rfl, rfl, rfl, rfl, rfl⟩

/-! ### A cycle without a request or a frame -/

/-- From IDLE no sub-step before the tick runs (41_transmitter R137): the state at the start of the cycle stays. -/
theorem checked_idle {s : State} {tick : Bool} (sample : s.sample = { Sample.idle with tick := tick })
    (idle : s.txState = .idle) : s.checked = s.begun := by
  rw [State.checked, State.answered, ackStep_none (by rw [sample]; rfl), State.received,
    dataStep_none (by rw [sample]; rfl), State.requested, busStep_none (by rw [sample]; rfl),
    State.cycleStart_eq_begun, timeoutStep_idle (s := s.begun) idle]

/-- The cycle of an idle block with nothing but a tick, which TIMER does not count (R141). -/
theorem edge_idle {s : State} {tick : Bool} (sample : s.sample = { Sample.idle with tick := tick })
    (idle : s.txState = .idle) :
    s.edge = { s with
      time := s.time + (if tick then 1 else 0)
      restarted := false
      out := s.quietOutputs
      chan := s.chan.after s.stimulus s.quietOutputs
      script := s.script.tail } := by
  have notWaiting : s.begun.txState ≠ .awaitingAck := by simp [State.begun, idle]
  rw [edge_of_checked (checked_idle sample idle) (by rw [sample]; rfl) (by rw [sample]; rfl) (by rw [sample]; rfl),
    sample]
  simp only [notWaiting, false_and, and_false, if_false]
  rfl

/-- Settles O31: `State.quietOutputs` shows the interrupt alone. -/
theorem idleIsQuiescent : Obligations.IdleIsQuiescent := by
  intro s tick legal idle sample
  have stepped : step s = .next s.edge := step_legal legal
  rw [edge_idle sample idle] at stepped
  exact stepped

end Sys2Proof.Machine
end
